-- ==== Sys2Proof/Word.lean ====
section
/-! DEFINITION. The words of the block: bytes, addresses, line counts, the Device Configuration Record, the register
image, the Mode Context, and the two things handed to the Bus Transaction Primitive (a frame, a template).
Notation: 00_scope.md R8; types: 10_state.md R21, R33, 30_encoding.md R91, R95, R107, R109. -/

namespace Sys2Proof

/-- A byte, bit 7 the most significant (R8). -/
abbrev Byte := BitVec 8

/-- The 32-bit address operand and address phase (R91, R99). -/
abbrev Address := BitVec 32

/-- The 32-bit length operand and data length (R91, R99). -/
abbrev Length := BitVec 32

/-- The index of a sub-register. R103 carries it as `zext_32(i)` in the 32-bit address phase and gives it no width: that
it has up to 32 bits is the model's choice (DESIGN CHOICE, notes/assumptions/31.md). -/
abbrev SubregIndex := BitVec 32

/-- How many data lines carry a phase (R21, R93). -/
inductive LineCount where
  | one | two | four | eight
deriving DecidableEq, Repr, Inhabited

/-- The width of an address phase in bits (R21). -/
inductive AddrWidth where
  | bits24 | bits32
deriving DecidableEq, Repr, Inhabited

/-- The five array read commands, one of which `ctx.rop` selects (R21, R105). -/
inductive ReadOp where
  | fast | dual | quad | octal | octalDtr
deriving DecidableEq, Repr, Inhabited

/-- The four array write commands, one of which `ctx.wop` selects (R21, R105). -/
inductive WriteOp where
  | std | dual | quad | octalExt
deriving DecidableEq, Repr, Inhabited

/-- Direction of a data phase (R91). -/
inductive Direction where
  | dirIn | dirOut
deriving DecidableEq, Repr, Inhabited

/-- The four signal lines of the Bus Reset Sequencer (R107, R266). -/
inductive SignalLine where
  | clk | cs | da | db
deriving DecidableEq, Repr, Inhabited

/-- The policy of the bulk blank/pattern-verify pass; only `skip` is defined (R7, R230). -/
inductive BulkPolicy where
  | skip | other
deriving DecidableEq, Repr, Inhabited

/-- The Device Configuration Record: seven byte codes and four bits (R33). -/
structure Record where
  ifMode   : Byte
  dummy    : Byte
  drv      : Byte
  strobe   : Byte
  addrMode : Byte
  xip      : Byte
  wrap     : Byte
  erasePol : Bool
  otpLock  : Bool
  rstPin   : Bool
  wrMode   : Bool
deriving DecidableEq, Repr, Inhabited

/-- The register image, byte 0 first: `REG_BLOCK_LEN` bytes, nine by default (R7, R95). -/
abbrev Image := List Byte

/-- The Mode Context (R21). -/
structure Ctx where
  ilm : LineCount
  alm : LineCount
  dlm : LineCount
  abw : AddrWidth
  rop : ReadOp
  wop : WriteOp
  dcd : Byte
  dcc : Byte
deriving DecidableEq, Repr, Inhabited

/-- The address phase of a frame (R91). -/
structure AddrPhase where
  addr   : Address
  alines : LineCount
  awidth : AddrWidth
deriving DecidableEq, Repr, Inhabited

/-- The data phase of a frame: received, of a length, or sent, a byte list (R91). -/
inductive DataPhase where
  | recv (dlines : LineCount) (len : Length)
  | send (dlines : LineCount) (tx : List Byte)
deriving DecidableEq, Repr, Inhabited

/-- A frame, the argument of one `Btp` call (R91); `dummy = 0` is no dummy phase. -/
structure Frame where
  instr  : Byte
  ilines : LineCount
  addr   : Option AddrPhase
  dummy  : Byte
  data   : Option DataPhase
deriving DecidableEq, Repr, Inhabited

/-- A frame template: a frame without its address value, length and data (R109, R257). -/
structure Template where
  instr  : Byte
  ilines : LineCount
  alines : LineCount
  awidth : AddrWidth
  dummy  : Byte
  dlines : LineCount
  dir    : Direction
deriving DecidableEq, Repr, Inhabited

/-- The argument of one `BtpMm` call (R109, R256). -/
inductive MmCall where
  | setWrite (tw : Template)
  | setRead (tr : Template)
  | enable (timeoutCounter : Bool) (period : Nat)
deriving DecidableEq, Repr, Inhabited

/-- What an answer of the environment can be when no script gives it: Ok, Fail, or not yet (R9, R92, U3). -/
inductive Reply where
  | ok | fail | pending
deriving DecidableEq, Repr, Inhabited

end Sys2Proof
end

