-- ==== Sys2Proof/Config.lean ====
section
/-! DEFINITION. The parameter table of 00_scope.md R7 as ONE record, its defaults, and the free values of the
environment. "A model takes the whole table as one configuration record" (R7): the machine reads the record its state
carries, which no step changes, so a statement about every state is a statement about every value of every parameter;
after reset the record is `Config.params`, the defaults of R7 (PRESUMED for the ones R7 marks `gk`, DESIGN CHOICE of
the spec for those it marks `decision`; notes/assumptions/6.md; unsafe). A parameter R7 calls OPEN is an opaque
constant there (notes/assumptions/7.md; safe, but for what notes/assumptions/30.md takes of `DEFAULT_CFG`). An answer
of the environment that no script gives is an opaque function of the draw counter (notes/assumptions/2.md; safe). -/

namespace Sys2Proof

/-- The 21 wire opcodes `OP_*` (R7, R104). -/
structure Opcodes where
  wren          : Byte
  wrdi          : Byte
  rdsr          : Byte
  wrsr          : Byte
  rdfsr         : Byte
  clfsr         : Byte
  rdid          : Byte
  rdnvcr        : Byte
  wrnvcr        : Byte
  rdvcr         : Byte
  wrvcr         : Byte
  readFast      : Byte
  readDual      : Byte
  readQuad      : Byte
  readOctal     : Byte
  readOctalDtr  : Byte
  writeStd      : Byte
  writeDual     : Byte
  writeQuad     : Byte
  writeOctalExt : Byte
  eraseChip     : Byte
deriving DecidableEq, Repr

/-- The 11 host command codes (R7, R98). -/
structure CommandCodes where
  init        : Byte
  reprov      : Byte
  read        : Byte
  write       : Byte
  eraseChip   : Byte
  readId      : Byte
  readStatus  : Byte
  readFlags   : Byte
  clearFlags  : Byte
  poll        : Byte
  mmap        : Byte
deriving DecidableEq, Repr

/-- The five result codes (R7, R100). -/
structure ResultCodes where
  ok           : Byte
  transport    : Byte
  verification : Byte
  timeout      : Byte
  config       : Byte
deriving DecidableEq, Repr

/-- `INSTR_LINES(w)` for the widths 2, 4 and 8; width 1 is one line everywhere (R141, R152). -/
structure InstrLines where
  two   : LineCount
  four  : LineCount
  eight : LineCount
deriving DecidableEq, Repr

/-- The configuration record: the whole table of R7. -/
structure Params where
  /-- `REG_BLOCK_LEN`. R95 gives nine bytes; what another length means is the model's choice (DESIGN CHOICE,
  notes/assumptions/32.md). -/
  regBlockLen      : Nat
  /-- `ID_LEN` -/
  idLen            : Length
  /-- `RESERVED_BYTE` -/
  reservedByte     : Byte
  /-- `ADDRMODE_DEFAULT` -/
  addrModeDefault  : Byte
  /-- `WIDTHS` -/
  widths           : List Nat
  /-- `READY_BIT` -/
  readyBit         : Nat
  /-- `OP_*` -/
  op               : Opcodes
  /-- `OCTAL_CFG_DUMMY` -/
  octalCfgDummy    : Byte
  /-- `NONOCTAL_CFG_DUMMY` -/
  nonOctalCfgDummy : Byte
  /-- `DEFAULT_DATA_DUMMY` -/
  defaultDataDummy : Byte
  /-- `INSTR_LINES(w)` -/
  instrLines       : InstrLines
  /-- `TICK_W` -/
  tickW            : Nat
  /-- `T_INFINITE` -/
  tInfinite        : Nat
  /-- `STATUS_CLEARED` -/
  statusCleared    : Byte
  /-- `BP_MASK` -/
  bpMask           : Byte
  /-- `MAINT_SUBREG`. Its width is given nowhere; an index of up to 32 bits (DESIGN CHOICE, notes/assumptions/31.md). -/
  maintSubreg      : SubregIndex
  /-- `MAINT_KEY` -/
  maintKey         : Byte
  /-- `MAINT_EXIT` -/
  maintExit        : Byte
  /-- `DEFAULT_CFG`; taken to select the single-line interface of `CTX_DEFAULT`
  (R227; DESIGN CHOICE, notes/assumptions/30.md) -/
  defaultCfg       : Record
  /-- `REPROV_BULK_VERIFY` -/
  reprovBulkVerify : BulkPolicy
  /-- `RESET_SEQ` -/
  resetSeq         : List (SignalLine × Bool)
  /-- `MM_TIMEOUT_PERIOD` -/
  mmTimeoutPeriod  : Nat
  /-- host command codes -/
  cmd              : CommandCodes
  /-- result codes -/
  res              : ResultCodes
deriving DecidableEq, Repr

/-- The opcodes in the table's order (R104). -/
def Opcodes.all (o : Opcodes) : List Byte :=
  [o.wren, o.wrdi, o.rdsr, o.wrsr, o.rdfsr, o.clfsr, o.rdid, o.rdnvcr, o.wrnvcr, o.rdvcr, o.wrvcr, o.readFast,
   o.readDual, o.readQuad, o.readOctal, o.readOctalDtr, o.writeStd, o.writeDual, o.writeQuad, o.writeOctalExt,
   o.eraseChip]

/-- The host command codes in the table's order (R98). -/
def CommandCodes.all (c : CommandCodes) : List Byte :=
  [c.init, c.reprov, c.read, c.write, c.eraseChip, c.readId, c.readStatus, c.readFlags, c.clearFlags, c.poll, c.mmap]

/-- "For a trace of frames to be decodable the 21 parameter values must be pairwise distinct" (R104); the same of the
command codes (R98). -/
def Params.Distinct (P : Params) : Prop := P.op.all.Nodup ∧ P.cmd.all.Nodup

end Sys2Proof

namespace Sys2Proof.Config

/-! OPEN parameters (R7): no value can be proved of them. -/

/-- The "temporary maintenance-mode key" (OPEN, D35). -/
opaque maintKey : Byte

/-- The "default register contents" forced by re-provisioning (OPEN, D36). -/
opaque defaultCfg : Record

/-- The line-level toggle sequence of the Bus Reset Sequencer (OPEN, D33, R267). -/
opaque resetSeq : List (SignalLine × Bool)

/-- The period of the bus timeout counter of memory-mapped mode (OPEN, D31). -/
opaque mmTimeoutPeriod : Nat

/-- The default wire opcodes. PRESUMED: general knowledge, the source prints none (D2, G1). -/
def opcodes : Opcodes :=
  { wren := 0x06, wrdi := 0x04, rdsr := 0x05, wrsr := 0x01, rdfsr := 0x70, clfsr := 0x50, rdid := 0x9F,
    rdnvcr := 0xB5, wrnvcr := 0xB1, rdvcr := 0x85, wrvcr := 0x81,
    readFast := 0x0B, readDual := 0x3B, readQuad := 0x6B, readOctal := 0x8B, readOctalDtr := 0x9D,
    writeStd := 0x02, writeDual := 0xA2, writeQuad := 0x32, writeOctalExt := 0xC2, eraseChip := 0xC7 }

/-- The default host command codes 0x00..0x0A. DESIGN CHOICE of the spec (D24). -/
def commandCodes : CommandCodes :=
  { init := 0x00, reprov := 0x01, read := 0x02, write := 0x03, eraseChip := 0x04, readId := 0x05, readStatus := 0x06,
    readFlags := 0x07, clearFlags := 0x08, poll := 0x09, mmap := 0x0A }

/-- The default result codes 0..4. DESIGN CHOICE of the spec (D23). -/
def resultCodes : ResultCodes := { ok := 0, transport := 1, verification := 2, timeout := 3, config := 4 }

/-- The defaults of R7. PRESUMED: the opcodes, `octalCfgDummy` and `defaultDataDummy` (G1 to G3). DESIGN CHOICE of the
spec: `nonOctalCfgDummy`, `instrLines`, `tickW`, `tInfinite`, `statusCleared`, `bpMask`, `maintSubreg`, `maintExit`
and the codes (D3, D4, D20, D23, D24, D27, D35, D37). From the source: `regBlockLen`, `idLen`, `reservedByte`,
`addrModeDefault`, `widths`, `readyBit`, `reprovBulkVerify`. OPEN: `maintKey`, `defaultCfg`, `resetSeq`,
`mmTimeoutPeriod`. -/
def params : Params :=
  { regBlockLen := 9, idLen := 3, reservedByte := 0xFF, addrModeDefault := 0xFF, widths := [1, 2, 4, 8], readyBit := 7,
    op := opcodes, octalCfgDummy := 8, nonOctalCfgDummy := 0, defaultDataDummy := 8,
    instrLines := { two := .two, four := .four, eight := .eight },
    tickW := 32, tInfinite := 2 ^ 32 - 1, statusCleared := 0x00, bpMask := 0x7F,
    maintSubreg := 2, maintKey := maintKey, maintExit := 0xFF, defaultCfg := defaultCfg, reprovBulkVerify := .skip,
    resetSeq := resetSeq, mmTimeoutPeriod := mmTimeoutPeriod, cmd := commandCodes, res := resultCodes }

/-- What DECODE reads from an image of fewer bytes than the fields of R95 stand in; R131 says nothing of it:
a free value (notes/assumptions/32.md). -/
opaque shortImage : Image → Record

/-! Free values: the environment's answers where no script gives them (R4, R9; notes/assumptions/2.md). -/

/-- The status of the `n`-th answer drawn by a `Btp` call. -/
opaque btpStatus : Nat → Reply

/-- The bytes received with the `n`-th answer; as many as the frame asks for (R92). -/
opaque rxBytes : Nat → (len : Nat) → Vector Byte len

/-- The status of the `n`-th answer drawn by a `BtpMm` call. -/
opaque mmStatus : Nat → Reply

/-- The `n`-th answer drawn by a `Tick` call, of which `TICK_W` bits count. -/
opaque tick : Nat → Nat

end Sys2Proof.Config
end

