-- ==== Sys2Proof/Machine/Flags.lean ====
section
/-! DEFINITION. Result codes and the conditions the block tests in a byte just read (10_state.md R26, R35, R36;
30_encoding.md R97, R100). No operation sets a flag as a side effect. -/

namespace Sys2Proof

/-- `res`: the result of the last finished host command (R26, R100). -/
inductive Result where
  | ok | transport | verification | timeout | config
deriving DecidableEq, Repr, Inhabited

/-- The four failure kinds (R280). -/
inductive Failure where
  | transport | verification | timeout | config
deriving DecidableEq, Repr, Inhabited

/-- The result a failure kind ends a command with (R286). -/
def Failure.toResult : Failure → Result
  | .transport => .transport
  | .verification => .verification
  | .timeout => .timeout
  | .config => .config

/-- The code of a result (R100). -/
def Result.code (P : Params) : Result → Byte
  | .ok => P.res.ok
  | .transport => P.res.transport
  | .verification => P.res.verification
  | .timeout => P.res.timeout
  | .config => P.res.config

/-- The two-valued form of a result: Ok is ok, the others are error (R26, R100). -/
def Result.isOk : Result → Bool
  | .ok => true
  | _ => false

/-- The ready condition: `READY_BIT`, bit 7, of a status or flag byte (R26 (b), R97). -/
def readyBitSet (P : Params) (b : Byte) : Bool := b.getLsbD P.readyBit

/-- The block-protect state of a status byte: `s & BP_MASK` (R26 (c)). -/
def blockProtect (P : Params) (b : Byte) : Byte := b &&& P.bpMask

end Sys2Proof
end

