-- ==== Sys2Proof/Syntax.lean ====
section
/-! DEFINITION. The instructions: one constructor per row of spec/opcode_table.json, in the table's order, and the
forms in which they are encoded (the host command word of 30_encoding.md R99, the frame of R91, the line step of R107,
the memory-map call of R109). RDID names two rows: the wire command `rdid` and the host command `readId`. -/

namespace Sys2Proof

/-- One constructor per row of the opcode table (R98, R104, R106, R107, R109). -/
inductive Instr where
  -- the 21 wire commands (R104)
  | wren
  | wrdi
  | rdsr
  | wrsr (b : Byte)
  | rdfsr
  | clfsr
  | rdid
  | rdnvcr (i : SubregIndex)
  | wrnvcr (i : SubregIndex) (b : Byte)
  | rdvcr (i : SubregIndex)
  | wrvcr (i : SubregIndex) (b : Byte)
  | readFast (a : Address) (n : Length)
  | readDual (a : Address) (n : Length)
  | readQuad (a : Address) (n : Length)
  | readOctal (a : Address) (n : Length)
  | readOctalDtr (a : Address) (n : Length)
  | writeStd (a : Address) (v : List Byte)
  | writeDual (a : Address) (v : List Byte)
  | writeQuad (a : Address) (v : List Byte)
  | writeOctalExt (a : Address) (v : List Byte)
  | eraseChipFrame
  -- the 11 host commands and the reserved codes (R98, R106)
  | init (cfg : Record) (w : Nat) (dtr : Bool)
  | reprov
  | read (a : Address) (n : Length)
  | write (a : Address) (v : List Byte)
  | eraseChip
  | readId
  | readStatus
  | readFlags
  | clearFlags
  | poll (timeout : Nat)
  | mmap
  | reservedCmd (code : Byte)
  -- the 8 internal operations
  | encodeRecord (cfg : Record)
  | decodeImage (img : Image)
  | derive (w : Nat) (dtr : Bool) (cfg : Record)
  | busReset
  | line (l : SignalLine) (v : Bool)
  | mmSetWrite (tw : Template)
  | mmSetRead (tr : Template)
  | mmEnable
deriving DecidableEq, Repr, Inhabited

/-- The host command word: the operand fields of the command port (R99). A command reads the fields of its row of
R98 and no other. -/
structure CmdWord where
  code    : Byte
  w       : BitVec 4
  dtr     : Bool
  cfg     : Record
  address : Address
  length  : Length
  wdata   : List Byte
  timeout : Nat
deriving DecidableEq, Repr, Inhabited

/-- An encoded instruction: what stands on the command port, or the port call the sequencer makes (R9). -/
inductive Code where
  | command (word : CmdWord)
  | wire (f : Frame)
  | lineStep (l : SignalLine) (v : Bool)
  | mmCall (c : MmCall)
deriving DecidableEq, Repr, Inhabited

/-- What the host asks of the machine: a command on the command port (R98), or an ordinary load or store in the
memory-mapped window (R64). -/
inductive HostReq where
  | cmd (word : CmdWord)
  | load (offset : Address) (len : Length)
  | store (offset : Address) (data : List Byte)
deriving DecidableEq, Repr, Inhabited

end Sys2Proof
end

