-- ==== Sys2Proof/Machine/Operands.lean ====
section
/-! DEFINITION. Operand forms: line counts and widths as numbers and codes, opcode selection, the phases of a frame
and the frame of every wire command, the two memory-map templates. Every line count and the address width of a frame
come from the Mode Context handed in (30_encoding.md R91); the dummy count by R102. -/

namespace Sys2Proof

/-- A line count as a number (R93). -/
def LineCount.count : LineCount → Nat
  | .one => 1
  | .two => 2
  | .four => 4
  | .eight => 8

/-- A line count as a 2-bit code, log2 of the count (R93). -/
def LineCount.code : LineCount → BitVec 2
  | .one => 0b00
  | .two => 0b01
  | .four => 0b10
  | .eight => 0b11

/-- The line count a width number names. -/
def LineCount.ofCount (w : Nat) : Option LineCount :=
  if w = 1 then some .one
  else if w = 2 then some .two
  else if w = 4 then some .four
  else if w = 8 then some .eight
  else none

/-- The supported interface widths, `WIDTHS` = {1,2,4,8}, and nothing else (R7, R149). -/
def LineCount.ofWidth (P : Params) (w : Nat) : Option LineCount :=
  if P.widths.contains w = true then LineCount.ofCount w else none

/-- An address width in bits (R21). -/
def AddrWidth.bits : AddrWidth → Nat
  | .bits24 => 24
  | .bits32 => 32

/-- The instruction byte of an array read (R105). -/
def ReadOp.opcode (P : Params) : ReadOp → Byte
  | .fast => P.op.readFast
  | .dual => P.op.readDual
  | .quad => P.op.readQuad
  | .octal => P.op.readOctal
  | .octalDtr => P.op.readOctalDtr

/-- The instruction byte of an array write (R105). -/
def WriteOp.opcode (P : Params) : WriteOp → Byte
  | .std => P.op.writeStd
  | .dual => P.op.writeDual
  | .quad => P.op.writeQuad
  | .octalExt => P.op.writeOctalExt

/-- The wire command `READ.x` a host read issues under a context: the one `ctx.rop` names (R169). -/
def selectRead (c : Ctx) (a : Address) (n : Length) : Instr :=
  match c.rop with
  | .fast => .readFast a n
  | .dual => .readDual a n
  | .quad => .readQuad a n
  | .octal => .readOctal a n
  | .octalDtr => .readOctalDtr a n

/-- The wire command `WRITE.x` a host write issues under a context: the one `ctx.wop` names (R170). -/
def selectWrite (c : Ctx) (a : Address) (v : List Byte) : Instr :=
  match c.wop with
  | .std => .writeStd a v
  | .dual => .writeDual a v
  | .quad => .writeQuad a v
  | .octalExt => .writeOctalExt a v

/-! ## Phases -/

/-- `A(a)`: the address on `ctx.alm` lines and `ctx.abw` bits, unmasked and unchecked (R101, R103). -/
def addrPhase (c : Ctx) (a : Address) : AddrPhase :=
  { addr := a, alines := c.alm, awidth := c.abw }

/-- A sub-register index as an address: `zext_32(i)` (R103), the index itself, which has up to 32 bits (DESIGN CHOICE,
notes/assumptions/31.md). -/
def subregAddr (i : SubregIndex) : Address := i

/-- `In(n)` on `ctx.dlm` lines. -/
def recvPhase (c : Ctx) (n : Length) : DataPhase := .recv c.dlm n

/-- `Out(v)` on `ctx.dlm` lines. -/
def sendPhase (c : Ctx) (v : List Byte) : DataPhase := .send c.dlm v

/-- How many bytes a frame receives: `f.len` of an In phase, else none (R92). -/
def Frame.rxLen (f : Frame) : Nat :=
  match f.data with
  | some (.recv _ n) => n.toNat
  | _ => 0

/-- Whether a frame has a data phase of direction In (R91). -/
def Frame.receives (f : Frame) : Bool :=
  match f.data with
  | some (.recv _ _) => true
  | _ => false

/-- `f.len` of a frame: present with a data phase; of an Out phase the length of `f.tx` (R91). -/
def Frame.len (f : Frame) : Option Length :=
  match f.data with
  | some (.recv _ n) => some n
  | some (.send _ v) => some (BitVec.ofNat 32 v.length)
  | none => none

/-! ## Frame shapes (R104), dummy counts by R102 -/

/-- `[op]`. -/
def bareFrame (op : Byte) (c : Ctx) : Frame :=
  { instr := op, ilines := c.ilm, addr := none, dummy := 0, data := none }

/-- `[op, dummy dcc, In(n)]`. -/
def regReadFrame (op : Byte) (c : Ctx) (n : Length) : Frame :=
  { instr := op, ilines := c.ilm, addr := none, dummy := c.dcc, data := some (recvPhase c n) }

/-- `[op, Out([b])]`. -/
def regWriteFrame (op : Byte) (c : Ctx) (b : Byte) : Frame :=
  { instr := op, ilines := c.ilm, addr := none, dummy := 0, data := some (sendPhase c [b]) }

/-- `[op, A(i), dummy dcc, In(1)]`. -/
def subregReadFrame (op : Byte) (c : Ctx) (i : SubregIndex) : Frame :=
  { instr := op, ilines := c.ilm, addr := some (addrPhase c (subregAddr i)), dummy := c.dcc,
    data := some (recvPhase c 1) }

/-- `[op, A(i), Out([b])]`. -/
def subregWriteFrame (op : Byte) (c : Ctx) (i : SubregIndex) (b : Byte) : Frame :=
  { instr := op, ilines := c.ilm, addr := some (addrPhase c (subregAddr i)), dummy := 0,
    data := some (sendPhase c [b]) }

/-- `[op, A(a), dummy dcd, In(n)]`. -/
def arrayReadFrame (op : Byte) (c : Ctx) (a : Address) (n : Length) : Frame :=
  { instr := op, ilines := c.ilm, addr := some (addrPhase c a), dummy := c.dcd, data := some (recvPhase c n) }

/-- `[op, A(a), Out(v)]`. -/
def arrayWriteFrame (op : Byte) (c : Ctx) (a : Address) (v : List Byte) : Frame :=
  { instr := op, ilines := c.ilm, addr := some (addrPhase c a), dummy := 0, data := some (sendPhase c v) }

/-- The frame of a wire command under a Mode Context (R104); other instructions have none. Of a write command this
is its own frame, without the WREN frame that its rule issues before it. -/
def frameOf (P : Params) (c : Ctx) : Instr → Option Frame
  | .wren => some (bareFrame P.op.wren c)
  | .wrdi => some (bareFrame P.op.wrdi c)
  | .rdsr => some (regReadFrame P.op.rdsr c 1)
  | .wrsr b => some (regWriteFrame P.op.wrsr c b)
  | .rdfsr => some (regReadFrame P.op.rdfsr c 1)
  | .clfsr => some (bareFrame P.op.clfsr c)
  | .rdid => some (regReadFrame P.op.rdid c P.idLen)
  | .rdnvcr i => some (subregReadFrame P.op.rdnvcr c i)
  | .wrnvcr i b => some (subregWriteFrame P.op.wrnvcr c i b)
  | .rdvcr i => some (subregReadFrame P.op.rdvcr c i)
  | .wrvcr i b => some (subregWriteFrame P.op.wrvcr c i b)
  | .readFast a n => some (arrayReadFrame P.op.readFast c a n)
  | .readDual a n => some (arrayReadFrame P.op.readDual c a n)
  | .readQuad a n => some (arrayReadFrame P.op.readQuad c a n)
  | .readOctal a n => some (arrayReadFrame P.op.readOctal c a n)
  | .readOctalDtr a n => some (arrayReadFrame P.op.readOctalDtr c a n)
  | .writeStd a v => some (arrayWriteFrame P.op.writeStd c a v)
  | .writeDual a v => some (arrayWriteFrame P.op.writeDual c a v)
  | .writeQuad a v => some (arrayWriteFrame P.op.writeQuad c a v)
  | .writeOctalExt a v => some (arrayWriteFrame P.op.writeOctalExt c a v)
  | .eraseChipFrame => some (bareFrame P.op.eraseChip c)
  | .init _ _ _ | .reprov | .read _ _ | .write _ _ | .eraseChip | .readId | .readStatus | .readFlags
  | .clearFlags | .poll _ | .mmap | .reservedCmd _ => none
  | .encodeRecord _ | .decodeImage _ | .derive _ _ _ | .busReset | .line _ _
  | .mmSetWrite _ | .mmSetRead _ | .mmEnable => none

/-! ## Memory-map templates (R257) -/

/-- The write template `tw` of a Mode Context. -/
def writeTemplate (P : Params) (c : Ctx) : Template :=
  { instr := c.wop.opcode P, ilines := c.ilm, alines := c.alm, awidth := c.abw, dummy := 0, dlines := c.dlm,
    dir := .dirOut }

/-- The read template `tr` of a Mode Context. -/
def readTemplate (P : Params) (c : Ctx) : Template :=
  { instr := c.rop.opcode P, ilines := c.ilm, alines := c.alm, awidth := c.abw, dummy := c.dcd, dlines := c.dlm,
    dir := .dirIn }

/-- A window load at offset `a`: the read template with its address and length filled in (R64, R257). -/
def Template.loadFrame (t : Template) (a : Address) (n : Length) : Frame :=
  { instr := t.instr, ilines := t.ilines, addr := some { addr := a, alines := t.alines, awidth := t.awidth },
    dummy := t.dummy, data := some (.recv t.dlines n) }

/-- A window store at offset `a`: the write template with its address and data filled in (R64, R257). -/
def Template.storeFrame (t : Template) (a : Address) (v : List Byte) : Frame :=
  { instr := t.instr, ilines := t.ilines, addr := some { addr := a, alines := t.alines, awidth := t.awidth },
    dummy := t.dummy, data := some (.send t.dlines v) }

end Sys2Proof
end

