-- ==== Sys2Proof/Machine/ModeContext.lean ====
section
/-! DEFINITION. The Mode Context derivation DERIVE and the default context (41_mode_context.md R140 to R153). -/

namespace Sys2Proof

/-- Address width: 24 bits for the default address-mode code, else 32 (R146). -/
def addrWidthOf (P : Params) (cfg : Record) : AddrWidth :=
  if cfg.addrMode = P.addrModeDefault then .bits24 else .bits32

/-- The read command of a width; the DTR flag matters at width 8 only (R141 to R145). -/
def readOpOf (l : LineCount) (dtr : Bool) : ReadOp :=
  match l with
  | .one => .fast
  | .two => .dual
  | .four => .quad
  | .eight => if dtr then .octalDtr else .octal

/-- The write command of a width (R141 to R144). -/
def writeOpOf : LineCount → WriteOp
  | .one => .std
  | .two => .dual
  | .four => .quad
  | .eight => .octalExt

/-- Config dummy cycles of a width (R148). -/
def cfgDummyOf (P : Params) : LineCount → Byte
  | .eight => P.octalCfgDummy
  | _ => P.nonOctalCfgDummy

/-- Instruction line count of a width: one line for width 1 (R141), `INSTR_LINES(w)` for the others (R152). -/
def instrLinesOf (P : Params) : LineCount → LineCount
  | .one => .one
  | .two => P.instrLines.two
  | .four => P.instrLines.four
  | .eight => P.instrLines.eight

/-- The context of a supported width (R151). -/
def deriveFor (P : Params) (l : LineCount) (dtr : Bool) (cfg : Record) : Ctx :=
  { ilm := instrLinesOf P l, alm := l, dlm := l, abw := addrWidthOf P cfg, rop := readOpOf l dtr, wop := writeOpOf l,
    dcd := cfg.dummy, dcc := cfgDummyOf P l }

/-- DERIVE: the Mode Context of a requested width, or `none` for ConfigError (R149, R151). -/
def deriveCtx (P : Params) (w : Nat) (dtr : Bool) (cfg : Record) : Option Ctx :=
  (LineCount.ofWidth P w).map (deriveFor P · dtr cfg)

/-- The single-line default context (R150). -/
def ctxDefault (P : Params) : Ctx :=
  { ilm := .one, alm := .one, dlm := .one, abw := .bits24, rop := .fast, wop := .std,
    dcd := P.defaultDataDummy, dcc := P.nonOctalCfgDummy }

end Sys2Proof
end

