-- ==== Sys2Proof/Machine/State.lean ====
section
/-! DEFINITION. The state of the sequencer, its steps in waiting, its events, the reasons a step can stop, and the
state after hardware reset (10_state.md). -/

namespace Sys2Proof.Machine

open Sys2Proof

/-- The sequence state, the block's program counter (R24). -/
inductive Seq where
  | uninit | reset | enableWrite | programNonvolatile | programVolatile | selectMode | verifyStatus
  | verifyNonvolatile | verifyVolatile | ready | error | fatal
deriving DecidableEq, Repr, Inhabited

/-- Who drives the four signal lines (R29). -/
inductive PinOwner where
  | btp | seq
deriving DecidableEq, Repr, Inhabited

/-- The answer of a `Btp` call that has returned: Ok with the received bytes, or Fail (R9, R92). -/
inductive Answer where
  | ok (rx : List Byte)
  | fail
deriving DecidableEq, Repr, Inhabited

/-- The answer of a `BtpMm` call that has returned (R9). -/
inductive MmAnswer where
  | ok | fail
deriving DecidableEq, Repr, Inhabited

/-- What a pure operation returned (R130, R131, R151). -/
inductive Returned where
  | none
  | image (img : Image)
  | record (c : Record)
  | ctx (c : Ctx)
  | configError
deriving DecidableEq, Repr, Inhabited

/-- One port event of the block's history (R9). -/
inductive Event where
  /-- a host command was taken -/
  | cmd (i : Instr)
  /-- its response: result code and data -/
  | rsp (r : Result) (d : List Byte)
  | busDeinit
  | busReinit
  | line (l : SignalLine) (v : Bool)
  | tick (v : Nat)
  | mm (c : MmCall) (a : MmAnswer)
  | btp (f : Frame) (a : Answer)
  /-- a window access the primitive served; no event of the sequencer (R6, R64) -/
  | window (f : Frame) (a : Answer)
deriving DecidableEq, Repr, Inhabited

/-- What the bytes of a block read are compared with (R208, R209, R228). -/
inductive Expected where
  | nvShadow
  | vShadow
  | bytes (l : List Byte)
deriving DecidableEq, Repr, Inhabited

/-- One step a running command has still to make: an instruction, or one register update or test of its rule (R5). -/
inductive Micro where
  /-- run a wire command or an internal operation -/
  | op (i : Instr)
  /-- the frame of write command `i`, right after its WREN frame was answered Ok (R74) -/
  | second (i : Instr)
  /-- `seq` goes to the next state of bring-up (R25) -/
  | advance
  /-- `mm <- 0` (R202) -/
  | clearMm
  /-- `mm <- 1` (R258) -/
  | setMm
  /-- `ctx <- CTX_DEFAULT` (R202, R227) -/
  | defaultCtx
  /-- `ctx <- ` the context DERIVE returned (R153, R206) -/
  | commitCtx
  /-- `nvShadow <- ` the image ENCODE returned (R204) -/
  | storeNv
  /-- `vShadow <- ` the image ENCODE returned (R205) -/
  | storeV
  /-- `pinOwner <- SEQ` (R269) -/
  | takePins
  /-- `pinOwner <- BTP` (R269) -/
  | givePins
  /-- `BusCtl.reinit()` (R269) -/
  | reinit
  /-- start of a block read (R167) -/
  | clearBlk
  /-- keep the bytes just received as the next of the block (R167) -/
  | gather
  /-- the ready test of VERIFY_STATUS (R207) -/
  | checkReady
  /-- the block-protect test of RP7, RP8 (R225, R226) -/
  | checkProtect (want : Byte)
  /-- the byte comparison of a block read (R208, R209, R228) -/
  | verify (e : Expected)
  /-- one read of `Tick()` (R242) -/
  | readTick
  /-- `pollStart <- ` the tick just read (R242) -/
  | startTimer
  /-- the ready test of a poll with deadline `bound`, if any (R242, R243) -/
  | pollTest (bound : Option Nat)
  /-- the timeout test of a finite poll, on the tick just read (R242) -/
  | tickTest (bound : Nat)
  /-- `privWin <- 1` (R223) -/
  | openWindow
  /-- RP9 (R230) -/
  | bulkVerify
  /-- RP10 (a), the WREN frame (R229) -/
  | exitWindow
  /-- RP10 (a), the exit write (R229) -/
  | exitWrite
  /-- RP10 (a), `privWin <- 0` (R229) -/
  | closeWindow
  /-- RP10 (b), the WRDI frame (R229) -/
  | disableWrite
  /-- `res <- ` the result of `reProvision` (R229) -/
  | conclude
  /-- `seq <- RESET` (R202) -/
  | enterReset
  /-- `seq <- ERROR` (R201, R211) -/
  | enterError
  /-- `seq <- FATAL`, and the block halts (R259, R288) -/
  | enterFatal
  /-- `res <- r` (R26, R286 (3)) -/
  | setRes (r : Result)
  /-- the response `Rsp(res, -)`, with the received bytes as data when it says so and `res` is Ok; the command is over
  (R100, R286 (4), (5)) -/
  | giveRsp (withData : Bool)
deriving DecidableEq, Repr, Inhabited

/-- Why the machine stops. -/
inductive Fault where
  /-- The block is in FATAL: it takes no command and makes no port call until hardware reset (R259, R288). Raised by
  every step and every port call in FATAL. Safe: nothing is claimed of the block after it. -/
  | halted
deriving DecidableEq, Repr, Inhabited

/-- Why a step has no meaning. With the default parameters no refusal is reachable from reset by
well-formed host requests but `windowNotMapped`. -/
inductive Refusal where
  /-- The instruction has no meaning yet; raised by `exec` only. Safe. -/
  | notModelled (mnemonic : String)
  /-- A WRITE command word whose byte list has not `length` bytes (R99); raised when a command is taken. Safe. -/
  | badCommandWord
  /-- A host command while another runs or `seq` is no resting value (R300, U22: refuse); raised when a command is
  accepted. Safe. -/
  | hostBusy
  /-- A `Btp` or `BtpMm` call while the sequencer owns the pins (R29, U21: refuse); raised by those calls. Safe. -/
  | pinsHeld
  /-- A `Line` step while the primitive owns the pins (R29, U21: refuse); raised by LINE. Safe. -/
  | pinsNotHeld
  /-- A window access while no window is set up: the spec gives it no behaviour (R64, R30); raised by the window.
  Safe. -/
  | windowNotMapped
  /-- A bulk-verify policy other than `skip` (R230, U17: refuse), which the default record does not have; raised by
  RP9. Safe. -/
  | bulkVerifyPolicy
deriving DecidableEq, Repr, Inhabited

end Sys2Proof.Machine

open Sys2Proof Sys2Proof.Machine

namespace Sys2Proof.Machine

/-- The machine's state. The first nine fields are the registers of R20; the others hold what the running command
holds (R39), what the primitive was configured with (R256), the inputs of the step relation (R6, R9, R39, R300: the
parameters, the host, the environment, hardware reset) and the event history (R9). -/
structure State where
  /-- the Mode Context (R21) -/
  ctx        : Ctx
  /-- the sequence state (R24) -/
  seq        : Seq
  /-- result of the last finished host command (R26) -/
  res        : Result
  /-- the non-volatile image last written by bring-up (R27) -/
  nvShadow   : Image
  /-- the volatile image last written by bring-up (R27) -/
  vShadow    : Image
  /-- tick value at the start of a finite poll (R28) -/
  pollStart  : Nat
  /-- who drives the four signal lines (R29) -/
  pinOwner   : PinOwner
  /-- memory-mapped mode has been set up (R30) -/
  mm         : Bool
  /-- the privileged window has been opened and not yet closed (R32) -/
  privWin    : Bool
  /-- the running host command with its operands (R39) -/
  cmd        : Option Instr
  /-- the steps of the running command still to make (R5) -/
  agenda     : List Micro
  /-- the bytes the last receiving frame gave (R92) -/
  rx         : List Byte
  /-- the bytes a block read has gathered (R167) -/
  blk        : List Byte
  /-- the first error of `reProvision` (R229) -/
  err        : Option Failure
  /-- the tick just read (R242) -/
  now        : Nat
  /-- what the last pure operation returned (R130, R131, R151) -/
  ret        : Returned
  /-- the write template the primitive holds (R256) -/
  primWrite  : Option Template
  /-- the read template the primitive holds (R256) -/
  primRead   : Option Template
  /-- the period the primitive's bus timeout counter is on with (R256, R301) -/
  primTimer  : Option Nat
  /-- input: the configuration record; no step changes it (R6, R7, notes/assumptions/6.md) -/
  params     : Params
  /-- input: hardware reset is asserted (R40) -/
  resetIn    : Bool
  /-- input: the host's requests, first come first (R300) -/
  inbox      : List HostReq
  /-- input: the answers of `Btp` calls, in the order asked; `none` is a step in which the call has not returned -/
  btpIn      : List (Option Answer)
  /-- input: the answers of `BtpMm` calls, in the order asked; `none` as in `btpIn` -/
  mmIn       : List (Option MmAnswer)
  /-- input: the values of `Tick` reads, in the order asked -/
  tickIn     : List Nat
  /-- how many answers have been drawn; selects the free values (the MODEL's own counter) -/
  draws      : Nat
  /-- the block's event history, oldest first (R9, R72) -/
  events     : List Event
deriving DecidableEq, Repr

/-- The state after hardware reset (R40, R310), with the default parameters of R7. The shadows and `pollStart`, which
R40 leaves without a value, hold zeros (DESIGN CHOICE, notes/assumptions/5.md; unsafe); the fields that are no register
are empty. -/
def State.reset : State :=
  { ctx := ctxDefault Config.params
    seq := .uninit
    res := .ok
    nvShadow := List.replicate Config.params.regBlockLen 0
    vShadow := List.replicate Config.params.regBlockLen 0
    pollStart := 0
    pinOwner := .btp
    mm := false
    privWin := false
    cmd := none
    agenda := []
    rx := []
    blk := []
    err := none
    now := 0
    ret := .none
    primWrite := none
    primRead := none
    primTimer := none
    params := Config.params
    resetIn := false
    inbox := []
    btpIn := []
    mmIn := []
    tickIn := []
    draws := 0
    events := [] }

end Sys2Proof.Machine
end

