-- ==== Sys2Proof/Machine/Ops.lean ====
section
/-! DEFINITION. The shared operations: recording an event, asking the environment, issuing a frame, ending a command,
raising a failure (the block's exception entry, 60_exceptions.md R286), halting (R288), hardware reset (R40), taking a
host command (R172, R300). A step makes one port call or one register update (R5): an operation that a rule gives more
than one of them puts the others in waiting. -/

namespace Sys2Proof.Machine

open Sys2Proof

/-- What one step answers. -/
abbrev Out := Host.Outcome State Fault Refusal

/-! ## State updates -/

/-- One more event in the history (R9). -/
def State.emit (s : State) (e : Event) : State := { s with events := s.events ++ [e] }

/-- Steps to make before the rest of the agenda. -/
def State.push (s : State) (ms : List Micro) : State := { s with agenda := ms ++ s.agenda }

/-- The state after an answer of `Btp` was drawn. -/
def State.drewBtp (s : State) : State := { s with btpIn := s.btpIn.tail, draws := s.draws + 1 }

/-- The state after an answer of `BtpMm` was drawn. -/
def State.drewMm (s : State) : State := { s with mmIn := s.mmIn.tail, draws := s.draws + 1 }

/-- The state after a value of `Tick` was drawn. -/
def State.drewTick (s : State) : State := { s with tickIn := s.tickIn.tail, draws := s.draws + 1 }

/-- The bytes a frame received are kept when the frame has an In phase (R92). -/
def State.received (s : State) (f : Frame) (bytes : List Byte) : State :=
  if f.receives = true then { s with rx := bytes } else s

/-! ## The sequence state -/

/-- The resting values of `seq` (R24, R25). -/
def Seq.resting : Seq → Bool
  | .uninit | .ready | .error | .fatal => true
  | _ => false

/-- The next state of bring-up (R24). -/
def Seq.succ : Seq → Seq
  | .reset => .enableWrite
  | .enableWrite => .programNonvolatile
  | .programNonvolatile => .programVolatile
  | .programVolatile => .selectMode
  | .selectMode => .verifyStatus
  | .verifyStatus => .verifyNonvolatile
  | .verifyNonvolatile => .verifyVolatile
  | .verifyVolatile => .ready
  | .uninit => .uninit
  | .ready => .ready
  | .error => .error
  | .fatal => .fatal

/-- A host command is running, or `seq` does not rest: the command port takes nothing (R300). -/
def State.busy (s : State) : Bool := s.cmd.isSome || !s.agenda.isEmpty || !s.seq.resting

/-! ## The end of a command -/

/-- The steps that end a command with a result: `res <- r`, then the response (R26, R286 (3), (4)). -/
def endProgram (r : Result) (withData : Bool) : List Micro := [.setRes r, .giveRsp withData]

/-- The data of a response: the received bytes, if the command has data and its result is Ok (R100). -/
def State.rspData (s : State) (withData : Bool) : List Byte :=
  if withData = true ∧ s.res = .ok then s.rx else []

/-- The one response of a host command; everything held "only while the command runs" is let go (R20, R39,
R286 (4), (5)). -/
def State.respond (s : State) (withData : Bool) : State :=
  { s with cmd := none, agenda := [], rx := [], blk := [], err := none, now := 0, ret := .none,
           events := s.events ++ [.rsp s.res (s.rspData withData)] }

/-- The cleanup of re-provisioning, step RP10 (R229). -/
def cleanupProgram : List Micro := [.exitWindow, .disableWrite, .conclude, .giveRsp false]

/-- The steps that end a failed command other than `reProvision`: inside `initialize` also `seq <- ERROR` (R211,
R286 (2)). -/
def failProgram (cmd : Option Instr) (k : Failure) : List Micro :=
  match cmd with
  | some (.init _ _ _) => .enterError :: endProgram k.toResult false
  | _ => endProgram k.toResult false

/-- `raise K` (R10, R286): nothing of the command is left to make but its end; inside `reProvision` the first error is
kept and the cleanup is what is left (R229). No register changes but by those steps. -/
def State.raise (s : State) (k : Failure) : State :=
  match s.cmd with
  | some .reprov => { s with err := s.err.or (some k), agenda := cleanupProgram }
  | _ => { s with agenda := failProgram s.cmd k }

/-- `halt` (R10, R259, R288): FATAL, no response, nothing more to do. -/
def State.halt (s : State) : State := { s with seq := .fatal, cmd := none, agenda := [] }

/-- Hardware reset (R40, R310): every register as `State.reset` says, under the parameters that stand; nothing of a
running command is left. The inputs, the primitive's configuration and the history are not the block's and stay; the
reset input is let go (DESIGN CHOICE, notes/assumptions/11.md, 17.md). -/
def State.hwReset (s : State) : State :=
  { State.reset with
    ctx := ctxDefault s.params, nvShadow := List.replicate s.params.regBlockLen 0,
    vShadow := List.replicate s.params.regBlockLen 0,
    primWrite := s.primWrite, primRead := s.primRead, primTimer := s.primTimer, params := s.params,
    inbox := s.inbox, btpIn := s.btpIn, mmIn := s.mmIn, tickIn := s.tickIn, draws := s.draws, events := s.events }

/-! ## The environment's answers (R9) -/

/-- The bytes received by a frame answered Ok: the script's if they are as many as the frame asks for (R92), else
free. -/
def State.okBytes (s : State) (f : Frame) (bytes : List Byte) : List Byte :=
  if bytes.length = f.rxLen then bytes else (Config.rxBytes s.draws f.rxLen).toList

/-- The answer of `Btp(f)`; `none`: the call has not returned. -/
def State.btpAnswer (s : State) (f : Frame) : Option Answer :=
  match s.btpIn with
  | some (.ok bytes) :: _ => some (.ok (s.okBytes f bytes))
  | some .fail :: _ => some .fail
  | none :: _ => none
  | [] =>
    match Config.btpStatus s.draws with
    | .ok => some (.ok (Config.rxBytes s.draws f.rxLen).toList)
    | .fail => some .fail
    | .pending => none

/-- The answer of `BtpMm`; `none`: the call has not returned. -/
def State.mmAnswer (s : State) : Option MmAnswer :=
  match s.mmIn with
  | a :: _ => a
  | [] =>
    match Config.mmStatus s.draws with
    | .ok => some .ok
    | .fail => some .fail
    | .pending => none

/-- The value of `Tick()`, `TICK_W` bits (R9, R244). -/
def State.tickAnswer (s : State) : Nat :=
  match s.tickIn with
  | v :: _ => v % 2 ^ s.params.tickW
  | [] => Config.tick s.draws % 2 ^ s.params.tickW

/-! ## Port calls -/

/-- A port call is made outside FATAL only (R259). -/
def unlessHalted (s t : State) : Out :=
  if s.seq = .fatal then .fault .halted else .next t

/-- `Btp` and `BtpMm` are called outside FATAL and only while the primitive owns the pins (R29, R324). -/
def onBus (s t : State) : Out :=
  if s.seq = .fatal then .fault .halted
  else if s.pinOwner = .seq then .refused .pinsHeld
  else .next t

/-- One call `Btp!(f)` (R10, R155): Fail raises Transport; after Ok come the steps `onOk`; a call that has not
returned is made again by `self` (notes/assumptions/2.md). -/
def State.btpBang (s : State) (self : Micro) (f : Frame) (onOk : List Micro) : State :=
  match s.btpAnswer f with
  | none => s.drewBtp.push [self]
  | some .fail => (s.drewBtp.emit (.btp f .fail)).raise .transport
  | some (.ok bytes) => ((s.drewBtp.emit (.btp f (.ok bytes))).received f bytes).push onOk

/-- One call of plain `Btp(f)` in the cleanup of re-provisioning (R229): a Fail does not stop it and counts as
Transport if nothing failed before. -/
def State.btpPlain (s : State) (self : Micro) (f : Frame) (onOk onFail : List Micro) : State :=
  match s.btpAnswer f with
  | none => s.drewBtp.push [self]
  | some .fail =>
    ({ s.drewBtp with err := s.err.or (some .transport) }.emit (.btp f .fail)).push onFail
  | some (.ok bytes) => (s.drewBtp.emit (.btp f (.ok bytes))).push onOk

/-- Issue of a wire command of one frame (R155). -/
def issue (self : Micro) (f : Frame) (s : State) : Out := onBus s (s.btpBang self f [])

/-- Issue of a write command: `WREN!`, then its own frame with nothing between (R74, R159, R164, R170). -/
def issuePair (i : Instr) (s : State) : Out :=
  onBus s (s.btpBang (.op i) (bareFrame s.params.op.wren s.ctx) [.second i])

/-- Issue of a frame of the cleanup of re-provisioning (R229). -/
def issuePlain (self : Micro) (f : Frame) (onOk onFail : List Micro) (s : State) : Out :=
  onBus s (s.btpPlain self f onOk onFail)

/-- What a memory-map call answered Ok leaves in the primitive (R256). -/
def State.configured (s : State) : MmCall → State
  | .setWrite t => { s with primWrite := some t }
  | .setRead t => { s with primRead := some t }
  | .enable _ period => { s with primTimer := some period }

/-- One call of `BtpMm`: after Fail the block halts and nothing else (R259). That a failed call leaves what the
primitive holds of the setup as it stood is the model's choice (DESIGN CHOICE, notes/assumptions/17.md): R259 says
only that the bus is left in an undefined transaction mode. -/
def State.mmBang (s : State) (self : Micro) (c : MmCall) : State :=
  match s.mmAnswer with
  | none => s.drewMm.push [self]
  | some .fail => { s.drewMm.emit (.mm c .fail) with agenda := [.enterFatal] }
  | some .ok => (s.drewMm.emit (.mm c .ok)).configured c

/-- Issue of a memory-map call. -/
def issueMm (self : Micro) (c : MmCall) (s : State) : Out := onBus s (s.mmBang self c)

/-- One read of `Tick` (R301). -/
def State.tickRead (s : State) : State := { s.drewTick.emit (.tick s.tickAnswer) with now := s.tickAnswer }

/-! ## Taking a host command -/

/-- A host command is taken when the block is idle, in any resting value of `seq` but FATAL (R172, R200, R221, R255,
R300): its operands are held, the steps of its rule stand ready, nothing has failed yet (R39, R229). -/
def accept (i : Instr) (steps : List Micro) (s : State) : Out :=
  if s.seq = .fatal then .fault .halted
  else if s.busy = true then .refused .hostBusy
  else .next { s.emit (.cmd i) with cmd := some i, agenda := steps, err := none }

end Sys2Proof.Machine
end

