-- ==== Sys2Proof/Machine/Blocks.lean ====
section
/-! DEFINITION. Block transfers of the configuration spaces and the comparison of what a block read gave
(42_protocol_ops.md R167, R168; 43_bringup.md R208; 44_reprovision.md R228). -/

namespace Sys2Proof.Machine

open Sys2Proof

/-- The two configuration spaces (R62). -/
inductive ConfigSpace where
  | nvcr | vcr
deriving DecidableEq, Repr

/-- A byte position of the image as the operand of a register command; a position of an image of more than 2^32 bytes
wraps (DESIGN CHOICE, notes/assumptions/31.md). -/
def subregIndex (k : Nat) : SubregIndex := BitVec.ofNat 32 k

/-- The positions a block transfer with leave-out list `skip` covers: those below `REG_BLOCK_LEN`, 0..8 by
default, in order (R7, R62, R167; notes/assumptions/32.md). -/
def covered (P : Params) (skip : List SubregIndex) : List Nat :=
  (List.range P.regBlockLen).filter (fun k => !skip.contains (subregIndex k))

/-- The bytes of an image with their positions, without the positions `skip`, in order (R168). -/
def coveredBytes (img : Image) (skip : List SubregIndex) : List (Byte × Nat) :=
  img.zipIdx.filter (fun p => !skip.contains (subregIndex p.2))

/-- The one-byte write of a space. -/
def ConfigSpace.writeCmd (sp : ConfigSpace) (i : SubregIndex) (b : Byte) : Instr :=
  match sp with
  | .nvcr => .wrnvcr i b
  | .vcr => .wrvcr i b

/-- The one-byte read of a space. -/
def ConfigSpace.readCmd (sp : ConfigSpace) (i : SubregIndex) : Instr :=
  match sp with
  | .nvcr => .rdnvcr i
  | .vcr => .rdvcr i

/-- `writeBlock(S, img, skip)` (R168). -/
def writeBlock (sp : ConfigSpace) (img : Image) (skip : List SubregIndex) : List Micro :=
  (coveredBytes img skip).map (fun p => .op (sp.writeCmd (subregIndex p.2) p.1))

/-- `readBlock(S)` without the positions `skip` (R167, R228). -/
def readBlock (P : Params) (sp : ConfigSpace) (skip : List SubregIndex) : List Micro :=
  [.clearBlk] ++ (covered P skip).flatMap (fun k => [.op (sp.readCmd (subregIndex k)), .gather])

/-- The bytes of an image that a block read without the positions `skip` gives when the device holds the image. -/
def imageBytes (img : Image) (skip : List SubregIndex) : List Byte := (coveredBytes img skip).map Prod.fst

/-- The bytes a comparison expects (R208, R209, R228). -/
def State.expected (s : State) : Expected → List Byte
  | .nvShadow => s.nvShadow
  | .vShadow => s.vShadow
  | .bytes l => l

/-- The byte comparison: any mismatch raises Verification (R208, R209, R228, R282). -/
def State.verify (s : State) (e : Expected) : State :=
  if s.blk = s.expected e then s else s.raise .verification

/-- The bytes just received are the next of the block (R167). -/
def State.gather (s : State) : State := { s with blk := s.blk ++ s.rx }

end Sys2Proof.Machine
end

