-- ==== Sys2Proof/Machine/Codec.lean ====
section
/-! DEFINITION. The Register Codec: ENCODE, DECODE and the two images of bring-up (40_register_codec.md R130 to R134).
-/

namespace Sys2Proof

/-- The packed byte, byte 8 of the image (R96). -/
def packedByte (c : Record) : Byte :=
  BitVec.ofBool c.erasePol ++ 0#4 ++ BitVec.ofBool c.otpLock ++ BitVec.ofBool c.rstPin ++ BitVec.ofBool c.wrMode

/-- The nine bytes R95 gives for a record. -/
def imageFields (P : Params) (c : Record) : List Byte :=
  [c.ifMode, c.dummy, P.reservedByte, c.drv, c.strobe, c.addrMode, c.xip, c.wrap, packedByte c]

/-- ENCODE: record to image (R130), `REG_BLOCK_LEN` bytes. With the default length they are the nine bytes of R95; a
longer image goes on with `RESERVED_BYTE`, a shorter one is cut (DESIGN CHOICE, notes/assumptions/32.md). -/
def encodeImage (P : Params) (c : Record) : Image := (imageFields P c).takeD P.regBlockLen P.reservedByte

/-- DECODE: image to record; byte 2 and bits 6:3 of byte 8 are not read (R131), nor bytes past those of R95. What an
image that ends before them gives is free (notes/assumptions/32.md). -/
def decodeRecord : Image → Record
  | b0 :: b1 :: _ :: b3 :: b4 :: b5 :: b6 :: b7 :: b8 :: _ =>
    { ifMode := b0, dummy := b1, drv := b3, strobe := b4, addrMode := b5, xip := b6, wrap := b7,
      erasePol := b8.getLsbD 7, otpLock := b8.getLsbD 2, rstPin := b8.getLsbD 1, wrMode := b8.getLsbD 0 }
  | img => Config.shortImage img

/-- The non-volatile image of a record: OTP-lock is left out (R133). -/
def nvImage (P : Params) (c : Record) : Image := encodeImage P { c with otpLock := false }

/-- The volatile image of a record (R133). -/
def vImage (P : Params) (c : Record) : Image := encodeImage P c

end Sys2Proof
end

