-- ==== Sys2Proof/Machine/Bringup.lean ====
section
/-! DEFINITION. The bring-up sequence INIT (43_bringup.md R200 to R214). -/

namespace Sys2Proof.Machine

open Sys2Proof

/-- State RESET (R202). `clearMm` is the register `mm` only: what the tear-down of the bus controller does to the
templates and the timer the primitive holds is not said, and the model keeps them (DESIGN CHOICE,
notes/assumptions/17.md). -/
def stepsReset : List Micro := [.enterReset, .op .busReset, .clearMm, .defaultCtx]

/-- State ENABLE_WRITE (R203). -/
def stepsEnableWrite : List Micro := [.advance, .op .clfsr, .op .wren]

/-- State PROGRAM_NONVOLATILE up to the block write (R204). -/
def stepsNvImage (cfg : Record) : List Micro :=
  [.advance, .op (.encodeRecord { cfg with otpLock := false }), .storeNv]

/-- State PROGRAM_VOLATILE up to the block write (R205). -/
def stepsVImage (cfg : Record) : List Micro := [.advance, .op (.encodeRecord cfg), .storeV]

/-- State SELECT_MODE (R206). -/
def stepsSelectMode (cfg : Record) (w : Nat) (dtr : Bool) : List Micro :=
  [.advance, .op (.derive w dtr cfg), .commitCtx]

/-- State VERIFY_STATUS (R207). -/
def stepsVerifyStatus (P : Params) : List Micro :=
  [.advance, .op (.wrsr P.statusCleared), .op .rdsr, .checkReady]

/-- State VERIFY_NONVOLATILE or VERIFY_VOLATILE (R208, R209). -/
def stepsVerify (P : Params) (sp : ConfigSpace) (e : Expected) : List Micro :=
  .advance :: (readBlock P sp [] ++ [.verify e])

/-- State READY (R210). -/
def stepsReady : List Micro := .advance :: endProgram .ok false

/-- The steps before the switch of framing, all under `CTX_DEFAULT` (R202 to R205, R212). -/
def programPhase (P : Params) (cfg : Record) : List Micro :=
  stepsEnableWrite ++ (stepsNvImage cfg ++ (writeBlock .nvcr (nvImage P cfg) [] ++
    (stepsVImage cfg ++ writeBlock .vcr (vImage P cfg) [])))

/-- The steps after the switch of framing (R207 to R210, R212). -/
def verifyPhase (P : Params) : List Micro :=
  stepsVerifyStatus P ++ (stepsVerify P .nvcr .nvShadow ++ (stepsVerify P .vcr .vShadow ++ stepsReady))

/-- The steps of `initialize(cfg, w, dtr)` with a supported width (R213). -/
def bringupProgram (P : Params) (cfg : Record) (w : Nat) (dtr : Bool) : List Micro :=
  stepsReset ++ (programPhase P cfg ++ (stepsSelectMode cfg w dtr ++ verifyPhase P))

/-- The whole command: the width check before any port call (R201), then the bring-up (R213). -/
def initProgram (P : Params) (cfg : Record) (w : Nat) (dtr : Bool) : List Micro :=
  match LineCount.ofWidth P w with
  | none => .enterError :: endProgram .config false
  | some _ => bringupProgram P cfg w dtr

/-- INIT (R213). -/
def execInit (cfg : Record) (w : Nat) (dtr : Bool) (s : State) : Out :=
  accept (.init cfg w dtr) (initProgram s.params cfg w dtr) s

/-- The image ENCODE returned goes to `nvShadow` (R204). -/
def State.storeNv (s : State) : State :=
  match s.ret with
  | .image img => { s with nvShadow := img }
  | _ => s

/-- The image ENCODE returned goes to `vShadow` (R205). -/
def State.storeV (s : State) : State :=
  match s.ret with
  | .image img => { s with vShadow := img }
  | _ => s

/-- The context DERIVE returned becomes the Mode Context, all eight fields at once (R22, R153, R206). -/
def State.commitCtx (s : State) : State :=
  match s.ret with
  | .ctx c => { s with ctx := c }
  | _ => s

/-- The ready test of VERIFY_STATUS (R207). -/
def State.checkReady (s : State) : State :=
  if readyBitSet s.params (s.rx.headD 0) = true then s else s.raise .verification

end Sys2Proof.Machine
end

