-- ==== Sys2Proof/Machine/BusReset.lean ====
section
/-! DEFINITION. The Bus Reset Sequencer: BUSRESET and LINE (47_bus_reset.md R265 to R272, 30_encoding.md R107). -/

namespace Sys2Proof.Machine

open Sys2Proof

/-- `RESET_SEQ` as steps, first to last (R267). -/
def toggleProgram (P : Params) : List Micro := P.resetSeq.map (fun p => .op (.line p.1 p.2))

/-- What `busReset()` does after `BusCtl.deinit()` (R269). -/
def busResetProgram (P : Params) : List Micro := [.takePins] ++ toggleProgram P ++ [.givePins, .reinit]

/-- BUSRESET: the call `BusCtl.deinit()`, then the rest of `busReset()` (R269). That the primitive keeps its templates
and its timer through the teardown is the model's choice (DESIGN CHOICE, notes/assumptions/17.md). -/
def execBusReset (s : State) : Out :=
  unlessHalted s ((s.emit .busDeinit).push (busResetProgram s.params))

/-- LINE: one step of the manual line control, legal only while the sequencer owns the pins (R29, R107). -/
def execLine (l : SignalLine) (v : Bool) (s : State) : Out :=
  if s.seq = .fatal then .fault .halted
  else if s.pinOwner = .btp then .refused .pinsNotHeld
  else .next (s.emit (.line l v))

end Sys2Proof.Machine
end

