-- ==== Sys2Proof/Machine/HostCmd.lean ====
section
/-! DEFINITION. The host commands of one or two frames, and the reserved codes (42_protocol_ops.md, 30_encoding.md
R106). -/

namespace Sys2Proof.Machine

open Sys2Proof

/-- READ: one `READ.x` frame, the opcode `ctx.rop` names (R169). -/
def execRead (a : Address) (n : Length) (s : State) : Out :=
  accept (.read a n) (.op (selectRead s.ctx a n) :: endProgram .ok true) s

/-- WRITE: WREN, then one `WRITE.x` frame, the opcode `ctx.wop` names (R170). -/
def execWrite (a : Address) (v : List Byte) (s : State) : Out :=
  accept (.write a v) (.op (selectWrite s.ctx a v) :: endProgram .ok false) s

/-- RDID, the host command (R162). -/
def execReadId (s : State) : Out :=
  accept .readId (.op .rdid :: endProgram .ok true) s

/-- RDSTATUS (R158). -/
def execReadStatus (s : State) : Out :=
  accept .readStatus (.op .rdsr :: endProgram .ok true) s

/-- RDFLAGS (R160). -/
def execReadFlags (s : State) : Out :=
  accept .readFlags (.op .rdfsr :: endProgram .ok true) s

/-- CLRFLAGS (R161). -/
def execClearFlags (s : State) : Out :=
  accept .clearFlags (.op .clfsr :: endProgram .ok false) s

/-- A reserved `cmd_code`: result Config, no port call (R106). -/
def execReservedCmd (code : Byte) (s : State) : Out :=
  accept (.reservedCmd code) (endProgram .config false) s

end Sys2Proof.Machine
end

