-- ==== Sys2Proof/Machine/MemMap.lean ====
section
/-! DEFINITION. The memory-map setup controller: MMAP and its three calls (46_memory_map.md R255 to R260). -/

namespace Sys2Proof.Machine

open Sys2Proof

/-- BTPMM.SETWRITE (R256). -/
def execMmSetWrite (tw : Template) (s : State) : Out := issueMm (.op (.mmSetWrite tw)) (.setWrite tw) s

/-- BTPMM.SETREAD (R256). -/
def execMmSetRead (tr : Template) (s : State) : Out := issueMm (.op (.mmSetRead tr)) (.setRead tr) s

/-- BTPMM.ENABLE, with the bus timeout counter on (R256). -/
def execMmEnable (s : State) : Out := issueMm (.op .mmEnable) (.enable true s.params.mmTimeoutPeriod) s

/-- The steps of `enableMemoryMapped()` under a context read once (R257, R260). -/
def mmapProgram (P : Params) (c : Ctx) : List Micro :=
  [.op (.mmSetWrite (writeTemplate P c)), .op (.mmSetRead (readTemplate P c)), .op .mmEnable, .setMm] ++
    endProgram .ok false

/-- MMAP (R260). -/
def execMmap (s : State) : Out := accept .mmap (mmapProgram s.params s.ctx) s

end Sys2Proof.Machine
end

