-- ==== Sys2Proof/Machine/Poll.lean ====
section
/-! DEFINITION. The busy-poll controller and chip erase: POLL and ERASECHIP (45_poll_erase.md R240 to R248). A
tick value and a timeout are unsigned numbers of `TICK_W` bits (R99, R244); the width is a parameter (R7), so they are
numbers below 2^TICK_W, and the one arithmetic on them is taken modulo 2^TICK_W where it is done. -/

namespace Sys2Proof.Machine

open Sys2Proof

/-- One turn of the poll loop from the flag read on (R242, R243). -/
def pollTurn (bound : Option Nat) : List Micro := [.op .rdfsr, .pollTest bound]

/-- The steps of a poll (R241 to R243): a zero timeout ends at once with Timeout; `T_INFINITE` polls without a deadline;
any other reads the tick first. -/
def pollProgram (P : Params) (timeout : Nat) : List Micro :=
  if timeout = 0 then endProgram .timeout false
  else if timeout = P.tInfinite then pollTurn none ++ endProgram .ok false
  else [.readTick, .startTimer] ++ pollTurn (some timeout) ++ endProgram .ok false

/-- POLL (R240). -/
def execPoll (timeout : Nat) (s : State) : Out := accept (.poll timeout) (pollProgram s.params timeout) s

/-- The steps of `eraseChip()` (R248). -/
def eraseProgram : List Micro := [.op .wren, .op .eraseChipFrame] ++ pollTurn none ++ endProgram .ok false

/-- ERASECHIP (R248). -/
def execEraseChip (s : State) : Out := accept .eraseChip eraseProgram s

/-- The ready test: ready ends the loop, else the tick test of a finite poll or the next flag read (R242, R243). -/
def State.pollTest (s : State) (bound : Option Nat) : State :=
  if readyBitSet s.params (s.rx.headD 0) = true then s
  else
    match bound with
    | none => s.push (pollTurn none)
    | some b => s.push [.readTick, .tickTest b]

/-- Elapsed ticks, modulo 2^TICK_W (R244). -/
def State.elapsed (s : State) : Nat := (s.now + 2 ^ s.params.tickW - s.pollStart) % 2 ^ s.params.tickW

/-- The timeout test: strictly more than the bound is Timeout (R242, R244). -/
def State.tickTest (s : State) (b : Nat) : State :=
  if b < s.elapsed then s.raise .timeout else s.push (pollTurn (some b))

end Sys2Proof.Machine
end

