-- ==== Sys2Proof/Machine/Pure.lean ====
section
/-! DEFINITION. The pure operations ENCODE, DECODE and DERIVE as instructions: they read and write no register and make
no port call (R130 to R132, R140, R151); what they return stands in `ret`, the model's own field
(notes/assumptions/15.md). -/

namespace Sys2Proof.Machine

open Sys2Proof

/-- ENCODE (R130). -/
def execEncodeRecord (cfg : Record) (s : State) : Out := .next { s with ret := .image (encodeImage s.params cfg) }

/-- DECODE (R131). -/
def execDecodeImage (img : Image) (s : State) : Out := .next { s with ret := .record (decodeRecord img) }

/-- DERIVE (R151). -/
def execDerive (w : Nat) (dtr : Bool) (cfg : Record) (s : State) : Out :=
  .next { s with ret := match deriveCtx s.params w dtr cfg with
                        | some c => .ctx c
                        | none => .configError }

end Sys2Proof.Machine
end

