-- ==== Sys2Proof/Machine/Reprov.lean ====
section
/-! DEFINITION. The re-provisioning sequence REPROV (44_reprovision.md R220 to R232). -/

namespace Sys2Proof.Machine

open Sys2Proof

/-- `skip`: `{MAINT_SUBREG}` if it is in 0..8, else empty (R221). -/
def maintSkip (P : Params) : List SubregIndex :=
  if P.maintSubreg.toNat < P.regBlockLen then [P.maintSubreg] else []

/-- RP2, clear flags and assert write-enable (R222). -/
def stepsRp2 : List Micro := [.op .clfsr, .op .wren]

/-- RP3, enter the privileged window (R223). -/
def stepsRp3 (P : Params) : List Micro := [.openWindow, .op (.wrvcr P.maintSubreg P.maintKey)]

/-- RP4, force the defaults (R224). -/
def stepsRp4 (P : Params) : List Micro :=
  writeBlock .nvcr (nvImage P P.defaultCfg) [] ++ writeBlock .vcr (vImage P P.defaultCfg) (maintSkip P)

/-- RP5, re-derive the Mode Context (R227): `CTX_DEFAULT`, whatever `DEFAULT_CFG` holds. R227 wants another context here
where `DEFAULT_CFG` selects another interface; it is taken to select the single-line one (DESIGN CHOICE,
notes/assumptions/30.md; unsafe). -/
def stepsRp5 : List Micro := [.defaultCtx]

/-- RP6 for one space, read back and compare (R228). -/
def stepsRp6 (P : Params) (sp : ConfigSpace) (img : Image) (skip : List SubregIndex) : List Micro :=
  readBlock P sp skip ++ [.verify (.bytes (imageBytes img skip))]

/-- RP7 or RP8, write the block-protect bits and confirm (R225, R226). -/
def stepsProtect (b : Byte) : List Micro := [.op (.wrsr b), .op .rdsr, .checkProtect b]

/-- RP9 (R230). -/
def stepsRp9 : List Micro := [.bulkVerify]

/-- Steps RP2 to RP9 (R231). -/
def reprovBody (P : Params) : List Micro :=
  stepsRp2 ++ (stepsRp3 P ++ (stepsRp4 P ++ (stepsRp5 ++
    (stepsRp6 P .nvcr (nvImage P P.defaultCfg) [] ++ (stepsRp6 P .vcr (vImage P P.defaultCfg) (maintSkip P) ++
      (stepsProtect P.bpMask ++ (stepsProtect 0 ++ stepsRp9)))))))

/-- REPROV: the body, then the cleanup RP10; a raise in the body goes to the cleanup too (R231). -/
def execReprov (s : State) : Out :=
  accept .reprov (reprovBody s.params ++ cleanupProgram) s

/-- The block-protect test of RP7 and RP8; bit 7 is not tested (R225, R226). -/
def State.checkProtect (s : State) (want : Byte) : State :=
  if blockProtect s.params (s.rx.headD 0) = want then s else s.raise .verification

/-- RP9: the policy `skip` does nothing; no other is specified (R230). -/
def bulkVerifyStep (s : State) : Out :=
  match s.params.reprovBulkVerify with
  | .skip => .next s
  | .other => .refused .bulkVerifyPolicy

/-- RP10 (a): with the window open, WREN by plain `Btp`; the exit write follows only an Ok; then the window counts as
closed whatever the answers were (R229). -/
def exitWindowStep (s : State) : Out :=
  if s.privWin = true then
    issuePlain .exitWindow (bareFrame s.params.op.wren s.ctx) [.exitWrite, .closeWindow] [.closeWindow] s
  else .next s

/-- RP10 (a): the exit byte to `MAINT_SUBREG` (R229). -/
def exitWriteStep (s : State) : Out :=
  issuePlain .exitWrite (subregWriteFrame s.params.op.wrvcr s.ctx s.params.maintSubreg s.params.maintExit) [] [] s

/-- RP10 (b): WRDI by plain `Btp` (R229). -/
def disableWriteStep (s : State) : Out :=
  issuePlain .disableWrite (bareFrame s.params.op.wrdi s.ctx) [] [] s

/-- The result of the command: the first error of the body, else Transport if a cleanup frame failed, else Ok (R229,
R231). -/
def State.concluded (s : State) : Result :=
  match s.err with
  | none => .ok
  | some k => k.toResult

end Sys2Proof.Machine
end

