-- ==== Sys2Proof/Machine/Wire.lean ====
section
/-! DEFINITION. The 21 wire commands (42_protocol_ops.md R155 to R171). A command without a write is one frame; WRSR,
WRNVCR, WRVCR and WRITE.x issue WREN first, and their own frame is the very next step (`Micro.second`). -/

namespace Sys2Proof.Machine

open Sys2Proof

/-- WREN (R156). -/
def execWren (s : State) : Out := issue (.op .wren) (bareFrame s.params.op.wren s.ctx) s

/-- WRDI (R157). -/
def execWrdi (s : State) : Out := issue (.op .wrdi) (bareFrame s.params.op.wrdi s.ctx) s

/-- RDSR (R158). -/
def execRdsr (s : State) : Out := issue (.op .rdsr) (regReadFrame s.params.op.rdsr s.ctx 1) s

/-- WRSR: `WREN!`, then `[OP_WRSR, Out([b])]` (R159). -/
def execWrsr (b : Byte) (s : State) : Out := issuePair (.wrsr b) s

/-- RDFSR (R160). -/
def execRdfsr (s : State) : Out := issue (.op .rdfsr) (regReadFrame s.params.op.rdfsr s.ctx 1) s

/-- CLFSR (R161). -/
def execClfsr (s : State) : Out := issue (.op .clfsr) (bareFrame s.params.op.clfsr s.ctx) s

/-- RDID, the wire command (R162). -/
def execRdid (s : State) : Out := issue (.op .rdid) (regReadFrame s.params.op.rdid s.ctx s.params.idLen) s

/-- RDNVCR (R163). -/
def execRdnvcr (i : SubregIndex) (s : State) : Out :=
  issue (.op (.rdnvcr i)) (subregReadFrame s.params.op.rdnvcr s.ctx i) s

/-- WRNVCR: `WREN!`, then `[OP_WRNVCR, A(i), Out([b])]` (R164). -/
def execWrnvcr (i : SubregIndex) (b : Byte) (s : State) : Out := issuePair (.wrnvcr i b) s

/-- RDVCR (R165). -/
def execRdvcr (i : SubregIndex) (s : State) : Out :=
  issue (.op (.rdvcr i)) (subregReadFrame s.params.op.rdvcr s.ctx i) s

/-- WRVCR: `WREN!`, then `[OP_WRVCR, A(i), Out([b])]` (R166). -/
def execWrvcr (i : SubregIndex) (b : Byte) (s : State) : Out := issuePair (.wrvcr i b) s

/-- READ.FAST (R169). -/
def execReadFast (a : Address) (n : Length) (s : State) : Out :=
  issue (.op (.readFast a n)) (arrayReadFrame s.params.op.readFast s.ctx a n) s

/-- READ.DUAL (R169). -/
def execReadDual (a : Address) (n : Length) (s : State) : Out :=
  issue (.op (.readDual a n)) (arrayReadFrame s.params.op.readDual s.ctx a n) s

/-- READ.QUAD (R169). -/
def execReadQuad (a : Address) (n : Length) (s : State) : Out :=
  issue (.op (.readQuad a n)) (arrayReadFrame s.params.op.readQuad s.ctx a n) s

/-- READ.OCTAL (R169). -/
def execReadOctal (a : Address) (n : Length) (s : State) : Out :=
  issue (.op (.readOctal a n)) (arrayReadFrame s.params.op.readOctal s.ctx a n) s

/-- READ.OCTALDTR (R169). -/
def execReadOctalDtr (a : Address) (n : Length) (s : State) : Out :=
  issue (.op (.readOctalDtr a n)) (arrayReadFrame s.params.op.readOctalDtr s.ctx a n) s

/-- WRITE.STD: `WREN!`, then its frame (R170). -/
def execWriteStd (a : Address) (v : List Byte) (s : State) : Out := issuePair (.writeStd a v) s

/-- WRITE.DUAL: `WREN!`, then its frame (R170). -/
def execWriteDual (a : Address) (v : List Byte) (s : State) : Out := issuePair (.writeDual a v) s

/-- WRITE.QUAD: `WREN!`, then its frame (R170). -/
def execWriteQuad (a : Address) (v : List Byte) (s : State) : Out := issuePair (.writeQuad a v) s

/-- WRITE.OCTALEXT: `WREN!`, then its frame (R170). -/
def execWriteOctalExt (a : Address) (v : List Byte) (s : State) : Out := issuePair (.writeOctalExt a v) s

/-- ERASE.CHIP, the frame; its WREN is a step of `eraseChip()` (R171, R248). -/
def execEraseChipFrame (s : State) : Out := issue (.op .eraseChipFrame) (bareFrame s.params.op.eraseChip s.ctx) s

end Sys2Proof.Machine
end

