-- ==== Sys2Proof/Machine/Dispatch.lean ====
section
/-! DEFINITION. One arm per instruction. -/

namespace Sys2Proof.Machine

def exec (i : Instr) (s : State) : Host.Outcome State Fault Refusal :=
  match i with
  | .wren => Sys2Proof.Machine.execWren s
  | .wrdi => Sys2Proof.Machine.execWrdi s
  | .rdsr => Sys2Proof.Machine.execRdsr s
  | .wrsr b => Sys2Proof.Machine.execWrsr b s
  | .rdfsr => Sys2Proof.Machine.execRdfsr s
  | .clfsr => Sys2Proof.Machine.execClfsr s
  | .rdid => Sys2Proof.Machine.execRdid s
  | .rdnvcr k => Sys2Proof.Machine.execRdnvcr k s
  | .wrnvcr k b => Sys2Proof.Machine.execWrnvcr k b s
  | .rdvcr k => Sys2Proof.Machine.execRdvcr k s
  | .wrvcr k b => Sys2Proof.Machine.execWrvcr k b s
  | .readFast a n => Sys2Proof.Machine.execReadFast a n s
  | .readDual a n => Sys2Proof.Machine.execReadDual a n s
  | .readQuad a n => Sys2Proof.Machine.execReadQuad a n s
  | .readOctal a n => Sys2Proof.Machine.execReadOctal a n s
  | .readOctalDtr a n => Sys2Proof.Machine.execReadOctalDtr a n s
  | .writeStd a v => Sys2Proof.Machine.execWriteStd a v s
  | .writeDual a v => Sys2Proof.Machine.execWriteDual a v s
  | .writeQuad a v => Sys2Proof.Machine.execWriteQuad a v s
  | .writeOctalExt a v => Sys2Proof.Machine.execWriteOctalExt a v s
  | .eraseChipFrame => Sys2Proof.Machine.execEraseChipFrame s
  | .init cfg w dtr => Sys2Proof.Machine.execInit cfg w dtr s
  | .reprov => Sys2Proof.Machine.execReprov s
  | .read a n => Sys2Proof.Machine.execRead a n s
  | .write a v => Sys2Proof.Machine.execWrite a v s
  | .eraseChip => Sys2Proof.Machine.execEraseChip s
  | .readId => Sys2Proof.Machine.execReadId s
  | .readStatus => Sys2Proof.Machine.execReadStatus s
  | .readFlags => Sys2Proof.Machine.execReadFlags s
  | .clearFlags => Sys2Proof.Machine.execClearFlags s
  | .poll timeout => Sys2Proof.Machine.execPoll timeout s
  | .mmap => Sys2Proof.Machine.execMmap s
  | .reservedCmd code => Sys2Proof.Machine.execReservedCmd code s
  | .encodeRecord cfg => Sys2Proof.Machine.execEncodeRecord cfg s
  | .decodeImage img => Sys2Proof.Machine.execDecodeImage img s
  | .derive w dtr cfg => Sys2Proof.Machine.execDerive w dtr cfg s
  | .busReset => Sys2Proof.Machine.execBusReset s
  | .line l v => Sys2Proof.Machine.execLine l v s
  | .mmSetWrite tw => Sys2Proof.Machine.execMmSetWrite tw s
  | .mmSetRead tr => Sys2Proof.Machine.execMmSetRead tr s
  | .mmEnable => Sys2Proof.Machine.execMmEnable s

end Sys2Proof.Machine
end

