-- ==== Sys2Proof/Machine/Micro.lean ====
section
/-! DEFINITION. One step of a running command: what each element of the agenda does (00_scope.md R5). -/

namespace Sys2Proof.Machine

open Sys2Proof

/-- The frame of a write command right after its WREN (R74). -/
def secondStep (i : Instr) (s : State) : Out :=
  match frameOf s.params s.ctx i with
  | some f => issue (.second i) f s
  | none => .next s

/-- One element of the agenda, taken off it, is done. -/
def runMicro (m : Micro) (s : State) : Out :=
  match m with
  | .op i => exec i s
  | .second i => secondStep i s
  | .advance => .next { s with seq := s.seq.succ }
  | .clearMm => .next { s with mm := false }
  | .setMm => .next { s with mm := true }
  | .defaultCtx => .next { s with ctx := ctxDefault s.params }
  | .commitCtx => .next s.commitCtx
  | .storeNv => .next s.storeNv
  | .storeV => .next s.storeV
  | .takePins => .next { s with pinOwner := .seq }
  | .givePins => .next { s with pinOwner := .btp }
  | .reinit => .next (s.emit .busReinit)
  | .clearBlk => .next { s with blk := [] }
  | .gather => .next s.gather
  | .checkReady => .next s.checkReady
  | .checkProtect want => .next (s.checkProtect want)
  | .verify e => .next (s.verify e)
  | .readTick => .next s.tickRead
  | .startTimer => .next { s with pollStart := s.now }
  | .pollTest bound => .next (s.pollTest bound)
  | .tickTest bound => .next (s.tickTest bound)
  | .openWindow => .next { s with privWin := true }
  | .bulkVerify => bulkVerifyStep s
  | .exitWindow => exitWindowStep s
  | .exitWrite => exitWriteStep s
  | .closeWindow => .next { s with privWin := false }
  | .disableWrite => disableWriteStep s
  | .conclude => .next { s with res := s.concluded }
  | .enterReset => .next { s with seq := .reset }
  | .enterError => .next { s with seq := .error }
  | .enterFatal => .next s.halt
  | .setRes r => .next { s with res := r }
  | .giveRsp withData => .next (s.respond withData)

end Sys2Proof.Machine
end

