-- ==== Sys2Proof/WellFormed.lean ====
section
/-! DEFINITION. Which instruction terms the encodings admit. `exec` is total and gives an ill-formed term its rule's
meaning all the same; these checks are what encoding and decoding rest on. -/

namespace Sys2Proof

/-- Sub-registers the block addresses in NVCR: those below `REG_BLOCK_LEN`, 0..8 by default (R62, U14;
notes/assumptions/24.md, 32.md). -/
def nvSubregOk (P : Params) (i : SubregIndex) : Bool := decide (i.toNat < P.regBlockLen)

/-- Sub-registers the block addresses in VCR: the same and `MAINT_SUBREG` (R60, R65, U14; notes/assumptions/24.md,
32.md). -/
def vSubregOk (P : Params) (i : SubregIndex) : Bool := decide (i.toNat < P.regBlockLen) || i == P.maintSubreg

/-- A byte list whose length fits the 32-bit length field (R91, R99). -/
def lengthFits (v : List Byte) : Bool := decide (v.length < 2 ^ 32)

/-- The width field has four bits (R99). -/
def widthFits (w : Nat) : Bool := decide (w < 16)

/-- An image of `REG_BLOCK_LEN` bytes (R7, R131). -/
def imageFits (P : Params) (img : Image) : Bool := decide (img.length = P.regBlockLen)

/-- A timeout of `TICK_W` bits (R99). -/
def timeoutFits (P : Params) (t : Nat) : Bool := decide (t < 2 ^ P.tickW)

/-- A command code that is none of the eleven of R98 is reserved: 0x0B..0xFF with the default codes (R106). -/
def reservedCode (P : Params) (code : Byte) : Bool := !P.cmd.all.contains code

/-- The instruction terms the encodings of 30_encoding.md admit. -/
def Instr.wf (P : Params) : Instr → Bool
  | .wren | .wrdi | .rdsr | .wrsr _ | .rdfsr | .clfsr | .rdid => true
  | .rdnvcr i | .wrnvcr i _ => nvSubregOk P i
  | .rdvcr i | .wrvcr i _ => vSubregOk P i
  | .readFast _ _ | .readDual _ _ | .readQuad _ _ | .readOctal _ _ | .readOctalDtr _ _ => true
  | .writeStd _ v | .writeDual _ v | .writeQuad _ v | .writeOctalExt _ v => lengthFits v
  | .eraseChipFrame => true
  | .init _ w _ => widthFits w
  | .reprov => true
  | .read _ _ => true
  | .write _ v => lengthFits v
  | .eraseChip | .readId | .readStatus | .readFlags | .clearFlags | .mmap => true
  | .poll t => timeoutFits P t
  | .reservedCmd code => reservedCode P code
  | .encodeRecord _ => true
  | .decodeImage img => imageFits P img
  | .derive w _ _ => widthFits w
  | .busReset | .line _ _ => true
  | .mmSetWrite t => t.dir == .dirOut
  | .mmSetRead t => t.dir == .dirIn
  | .mmEnable => true

end Sys2Proof
end

