-- ==== Sys2Proof/Decode.lean ====
section
/-! DEFINITION. Decoding and encoding. The block decodes host command words (30_encoding.md R98, R99, R106). The port
calls it makes (frames R104, line steps R107, memory-map calls R109) are decoded too, so that a trace can be read: "for
a trace of frames to be decodable the 21 parameter values must be pairwise distinct" (R104). Decoding is total and
rejects by name. -/

namespace Sys2Proof

/-- Why a code is no instruction's. -/
inductive DecodeError where
  /-- a WRITE command word whose byte list has not `length` bytes (R99) -/
  | wrongLength
  /-- a frame whose instruction byte is none of the 21 opcodes (R104) -/
  | unknownOpcode
  /-- a frame whose phases are not those of its opcode (R104) -/
  | wrongShape
  /-- a register frame with a sub-register the block never addresses (R62, R65, U14) -/
  | badSubregister
  /-- a memory-map call that no row of the table makes (R109) -/
  | wrongMmCall
deriving DecidableEq, Repr, Inhabited

/-! ## The host command word -/

/-- The command word of a host command code, every operand field zero. -/
def CmdWord.ofCode (code : Byte) : CmdWord :=
  { code := code, w := 0, dtr := false,
    cfg := { ifMode := 0, dummy := 0, drv := 0, strobe := 0, addrMode := 0, xip := 0, wrap := 0,
             erasePol := false, otpLock := false, rstPin := false, wrMode := false },
    address := 0, length := 0, wdata := [], timeout := 0 }

/-- The host command a command word asks for: `cmd_code` selects the row of R98, the row's operand fields are read and
no other (R99), of the timeout its `TICK_W` bits; every other code is the reserved row (R106). -/
def decodeCommand (P : Params) (w : CmdWord) : Except DecodeError Instr :=
  if w.code = P.cmd.init then .ok (.init w.cfg w.w.toNat w.dtr)
  else if w.code = P.cmd.reprov then .ok .reprov
  else if w.code = P.cmd.read then .ok (.read w.address w.length)
  else if w.code = P.cmd.write then
    if w.wdata.length = w.length.toNat then .ok (.write w.address w.wdata) else .error .wrongLength
  else if w.code = P.cmd.eraseChip then .ok .eraseChip
  else if w.code = P.cmd.readId then .ok .readId
  else if w.code = P.cmd.readStatus then .ok .readStatus
  else if w.code = P.cmd.readFlags then .ok .readFlags
  else if w.code = P.cmd.clearFlags then .ok .clearFlags
  else if w.code = P.cmd.poll then .ok (.poll (w.timeout % 2 ^ P.tickW))
  else if w.code = P.cmd.mmap then .ok .mmap
  else .ok (.reservedCmd w.code)

/-! ## The frame -/

/-- A frame of the instruction byte alone. -/
def Frame.asBare (f : Frame) (i : Instr) : Except DecodeError Instr :=
  match f.addr, f.data with
  | none, none => .ok i
  | _, _ => .error .wrongShape

/-- A frame that receives `n` bytes and has no address. -/
def Frame.asRegRead (f : Frame) (n : Length) (i : Instr) : Except DecodeError Instr :=
  match f.addr, f.data with
  | none, some (.recv _ m) => if m = n then .ok i else .error .wrongShape
  | _, _ => .error .wrongShape

/-- A frame that sends one byte and has no address. -/
def Frame.asRegWrite (f : Frame) (mk : Byte → Instr) : Except DecodeError Instr :=
  match f.addr, f.data with
  | none, some (.send _ [b]) => .ok (mk b)
  | _, _ => .error .wrongShape

/-- The sub-register index an address carries, if the block addresses it (R103, U14). -/
def subregOf (okay : SubregIndex → Bool) (a : Address) : Option SubregIndex :=
  if okay a = true then some a else none

/-- A frame that reads one byte of a sub-register. -/
def Frame.asSubregRead (f : Frame) (okay : SubregIndex → Bool) (mk : SubregIndex → Instr) : Except DecodeError Instr :=
  match f.addr, f.data with
  | some p, some (.recv _ n) =>
    if n = 1 then
      match subregOf okay p.addr with
      | some i => .ok (mk i)
      | none => .error .badSubregister
    else .error .wrongShape
  | _, _ => .error .wrongShape

/-- A frame that writes one byte to a sub-register. -/
def Frame.asSubregWrite (f : Frame) (okay : SubregIndex → Bool) (mk : SubregIndex → Byte → Instr) :
    Except DecodeError Instr :=
  match f.addr, f.data with
  | some p, some (.send _ [b]) =>
    match subregOf okay p.addr with
    | some i => .ok (mk i b)
    | none => .error .badSubregister
  | _, _ => .error .wrongShape

/-- A frame that reads the array. -/
def Frame.asArrayRead (f : Frame) (mk : Address → Length → Instr) : Except DecodeError Instr :=
  match f.addr, f.data with
  | some p, some (.recv _ n) => .ok (mk p.addr n)
  | _, _ => .error .wrongShape

/-- A frame that writes the array. -/
def Frame.asArrayWrite (f : Frame) (mk : Address → List Byte → Instr) : Except DecodeError Instr :=
  match f.addr, f.data with
  | some p, some (.send _ v) => .ok (mk p.addr v)
  | _, _ => .error .wrongShape

/-- The wire command a frame is: told by its instruction byte (R104). Line counts, address width and dummy count are
the Mode Context's and tell nothing of the command (R94). -/
def decodeFrame (P : Params) (f : Frame) : Except DecodeError Instr :=
  if f.instr = P.op.wren then f.asBare .wren
  else if f.instr = P.op.wrdi then f.asBare .wrdi
  else if f.instr = P.op.rdsr then f.asRegRead 1 .rdsr
  else if f.instr = P.op.wrsr then f.asRegWrite .wrsr
  else if f.instr = P.op.rdfsr then f.asRegRead 1 .rdfsr
  else if f.instr = P.op.clfsr then f.asBare .clfsr
  else if f.instr = P.op.rdid then f.asRegRead P.idLen .rdid
  else if f.instr = P.op.rdnvcr then f.asSubregRead (nvSubregOk P) .rdnvcr
  else if f.instr = P.op.wrnvcr then f.asSubregWrite (nvSubregOk P) .wrnvcr
  else if f.instr = P.op.rdvcr then f.asSubregRead (vSubregOk P) .rdvcr
  else if f.instr = P.op.wrvcr then f.asSubregWrite (vSubregOk P) .wrvcr
  else if f.instr = P.op.readFast then f.asArrayRead .readFast
  else if f.instr = P.op.readDual then f.asArrayRead .readDual
  else if f.instr = P.op.readQuad then f.asArrayRead .readQuad
  else if f.instr = P.op.readOctal then f.asArrayRead .readOctal
  else if f.instr = P.op.readOctalDtr then f.asArrayRead .readOctalDtr
  else if f.instr = P.op.writeStd then f.asArrayWrite .writeStd
  else if f.instr = P.op.writeDual then f.asArrayWrite .writeDual
  else if f.instr = P.op.writeQuad then f.asArrayWrite .writeQuad
  else if f.instr = P.op.writeOctalExt then f.asArrayWrite .writeOctalExt
  else if f.instr = P.op.eraseChip then f.asBare .eraseChipFrame
  else .error .unknownOpcode

/-- The memory-map call a row of the table makes (R109, R256). -/
def decodeMmCall (P : Params) : MmCall → Except DecodeError Instr
  | .setWrite t => if t.dir = .dirOut then .ok (.mmSetWrite t) else .error .wrongMmCall
  | .setRead t => if t.dir = .dirIn then .ok (.mmSetRead t) else .error .wrongMmCall
  | .enable on period => if on = true ∧ period = P.mmTimeoutPeriod then .ok .mmEnable else .error .wrongMmCall

/-- Decoding, total on any code. -/
def decode (P : Params) : Code → Except DecodeError Instr
  | .command w => decodeCommand P w
  | .wire f => decodeFrame P f
  | .lineStep l v => .ok (.line l v)
  | .mmCall c => decodeMmCall P c

/-! ## The encoder -/

/-- The command word of a host command (R98, R99); fields its row does not use are zero. -/
def encodeCommand (P : Params) : Instr → Option CmdWord
  | .init cfg w dtr => some { CmdWord.ofCode P.cmd.init with w := BitVec.ofNat 4 w, dtr := dtr, cfg := cfg }
  | .reprov => some (CmdWord.ofCode P.cmd.reprov)
  | .read a n => some { CmdWord.ofCode P.cmd.read with address := a, length := n }
  | .write a v =>
    some { CmdWord.ofCode P.cmd.write with address := a, length := BitVec.ofNat 32 v.length, wdata := v }
  | .eraseChip => some (CmdWord.ofCode P.cmd.eraseChip)
  | .readId => some (CmdWord.ofCode P.cmd.readId)
  | .readStatus => some (CmdWord.ofCode P.cmd.readStatus)
  | .readFlags => some (CmdWord.ofCode P.cmd.readFlags)
  | .clearFlags => some (CmdWord.ofCode P.cmd.clearFlags)
  | .poll t => some { CmdWord.ofCode P.cmd.poll with timeout := t }
  | .mmap => some (CmdWord.ofCode P.cmd.mmap)
  | .reservedCmd code => some (CmdWord.ofCode code)
  | .wren | .wrdi | .rdsr | .wrsr _ | .rdfsr | .clfsr | .rdid | .rdnvcr _ | .wrnvcr _ _ | .rdvcr _ | .wrvcr _ _
  | .readFast _ _ | .readDual _ _ | .readQuad _ _ | .readOctal _ _ | .readOctalDtr _ _
  | .writeStd _ _ | .writeDual _ _ | .writeQuad _ _ | .writeOctalExt _ _ | .eraseChipFrame => none
  | .encodeRecord _ | .decodeImage _ | .derive _ _ _ | .busReset | .line _ _
  | .mmSetWrite _ | .mmSetRead _ | .mmEnable => none

/-- The port call of LINE and of the memory-map operations (R107, R109); the pure operations and BUSRESET have no
encoding ("no encoding" in the opcode table). -/
def encodePort (P : Params) : Instr → Option Code
  | .line l v => some (.lineStep l v)
  | .mmSetWrite t => some (.mmCall (.setWrite t))
  | .mmSetRead t => some (.mmCall (.setRead t))
  | .mmEnable => some (.mmCall (.enable true P.mmTimeoutPeriod))
  | .encodeRecord _ | .decodeImage _ | .derive _ _ _ | .busReset => none
  | .init _ _ _ | .reprov | .read _ _ | .write _ _ | .eraseChip | .readId | .readStatus | .readFlags
  | .clearFlags | .poll _ | .mmap | .reservedCmd _ => none
  | .wren | .wrdi | .rdsr | .wrsr _ | .rdfsr | .clfsr | .rdid | .rdnvcr _ | .wrnvcr _ _ | .rdvcr _ | .wrvcr _ _
  | .readFast _ _ | .readDual _ _ | .readQuad _ _ | .readOctal _ _ | .readOctalDtr _ _
  | .writeStd _ _ | .writeDual _ _ | .writeQuad _ _ | .writeOctalExt _ _ | .eraseChipFrame => none

/-- Encoding: the command word of a host command, the frame of a wire command under a Mode Context, the port call of
an internal operation. -/
def encode (P : Params) (c : Ctx) (i : Instr) : Option Code :=
  match encodeCommand P i with
  | some w => some (.command w)
  | none =>
    match frameOf P c i with
    | some f => some (.wire f)
    | none => encodePort P i

/-! ## One number of the opcode table -/

/-- The 21 wire commands with every operand zero, in the table's order. -/
def wireRows : List Instr :=
  [.wren, .wrdi, .rdsr, .wrsr 0, .rdfsr, .clfsr, .rdid, .rdnvcr 0, .wrnvcr 0 0, .rdvcr 0, .wrvcr 0 0,
   .readFast 0 0, .readDual 0 0, .readQuad 0 0, .readOctal 0 0, .readOctalDtr 0 0,
   .writeStd 0 [], .writeDual 0 [], .writeQuad 0 [], .writeOctalExt 0 [], .eraseChipFrame]

/-- The zero-operand frame with instruction byte `op`, if `op` is a wire opcode. -/
def zeroFrame (P : Params) (op : Byte) : Option Frame :=
  (wireRows.filterMap (frameOf P (ctxDefault P))).find? (fun f => f.instr == op)

/-- What a table number of 8 bits encodes: a host command code (0x00..0x0A with the default codes) is the command word
with zero operands; above it a wire opcode is the zero-operand frame, and what is left is a reserved command code.
Codes 0x01, 0x02, 0x04, 0x05 and 0x06 are both a host command's and a wire command's; here they are the host command's
(notes/assumptions/12.md). -/
def codeOfNumber (P : Params) (w : Nat) : Code :=
  if P.cmd.all.contains (BitVec.ofNat 8 w) = true then .command (CmdWord.ofCode (BitVec.ofNat 8 w))
  else
    match zeroFrame P (BitVec.ofNat 8 w) with
    | some f => .wire f
    | none => .command (CmdWord.ofCode (BitVec.ofNat 8 w))

/-- The instruction the decoder reads from a number of the opcode table. -/
def decodeTableWord (nbits w : Nat) : Option Instr :=
  if nbits = 8 ∧ w < 256 then
    match decode Config.params (codeOfNumber Config.params w) with
    | .ok i => some i
    | .error _ => none
  else none

end Sys2Proof
end

