-- ==== Sys2Proof/Machine/Port.lean ====
section
/-! DEFINITION. What an idle block does with the host's next request: a command word is decoded and its command taken
(60_exceptions.md R300); a window access is served by the primitive with the template it holds (20_memory.md R64). -/

namespace Sys2Proof.Machine

open Sys2Proof

/-- A window access is a frame of the primitive; its answer is the environment's, and no register of the block changes
(R6, R64, R78, R79). A call that has not returned leaves the request where it is. What an access answered Fail does is
said nowhere: the model records the failed event, lets the request go, does not retry and goes on (DESIGN CHOICE, unsafe;
notes/assumptions/16.md). -/
def State.windowBang (s : State) (more : List HostReq) (f : Frame) : State :=
  match s.btpAnswer f with
  | none => s.drewBtp
  | some a => { s.drewBtp with inbox := more }.emit (.window f a)

/-- A window access with the template it needs, when the window is set up (R30, R64). -/
def windowStep (s : State) (more : List HostReq) (t : Option Template) (frame : Template → Frame) : Out :=
  match s.mm, t with
  | true, some t => onBus s (s.windowBang more (frame t))
  | _, _ => .refused .windowNotMapped

/-- The host's next request. With none, the block waits (R310). -/
def serveHost (s : State) : Out :=
  match s.inbox with
  | [] => .next s
  | .cmd word :: more =>
    match decode s.params (.command word) with
    | .ok i => exec i { s with inbox := more }
    | .error _ => .refused .badCommandWord
  | .load offset len :: more => windowStep s more s.primRead (fun t => t.loadFrame offset len)
  | .store offset data :: more => windowStep s more s.primWrite (fun t => t.storeFrame offset data)

end Sys2Proof.Machine
end

