-- ==== Sys2Proof/Machine/Step.lean ====
section
/-! DEFINITION. One step of the machine: one port call or one register update (00_scope.md R5). -/

namespace Sys2Proof.Machine

open Sys2Proof

/-- Hardware reset comes first, at any time (R300, R311); in FATAL nothing happens any more (R288); a running command
makes its next step; an idle block looks at the host's next request. -/
def step (s : State) : Host.Outcome State Fault Refusal :=
  if s.resetIn = true then .next s.hwReset
  else if s.seq = .fatal then .fault .halted
  else
    match s.agenda with
    | m :: rest => runMicro m { s with agenda := rest }
    | [] => serveHost s

/-- The instruction of an opcode-table number stands where `step` takes its next instruction: a host command on the
command port of an idle block, a wire command at the head of the agenda. -/
def State.withFetchWord (s : State) (_nbits w : Nat) : State :=
  match codeOfNumber s.params w with
  | .command word =>
    { s with resetIn := false, cmd := none, agenda := [], inbox := .cmd word :: s.inbox }
  | .wire f =>
    match decodeFrame s.params f with
    | .ok i => { s with resetIn := false, agenda := .op i :: s.agenda }
    | .error _ => s
  | .lineStep _ _ => s
  | .mmCall _ => s

end Sys2Proof.Machine
end

