-- ==== Sys2Proof/Safety.lean ====
section
/-! DEFINITION. What counts as a sound state and a safe run, in the terms the statements use: runs, idle and quiet
states, the state a command ends in, and the invariants of pins, privileged window, sequence state, memory map and
write-enable pairs. -/

namespace Sys2Proof.Machine

open Sys2Proof

/-! ## Runs -/

/-- `n` steps of the machine, stopping at the first fault or refusal. -/
def run (n : Nat) (s : State) : Out := Host.Core.run Sys2Proof.core n s

/-! ## States a command starts and ends in -/

/-- A port call on the bus is legal: not FATAL, and the primitive owns the pins (R29, R259). -/
abbrev State.busFree (s : State) : Prop := s.seq ≠ .fatal ∧ s.pinOwner = .btp

/-- The block waits for a host command and no reset is asserted (R172, R300). -/
abbrev State.quiet (s : State) : Prop := s.busFree ∧ s.busy = false ∧ s.resetIn = false

/-- The state in which a host command that began in `s` has ended with result `r`, after `k` answers were
drawn from the environment and `q` is left of the answers of `Btp`, its events being `evs`: `res`, `btpIn`, `draws`
and the history have changed, the temporaries are empty, and EVERY other field is as in `s`. -/
def State.ended (s : State) (r : Result) (q : List (Option Answer)) (k : Nat) (evs : List Event) : State :=
  { s with res := r, cmd := none, agenda := [], rx := [], blk := [], err := none, now := 0, ret := .none,
           btpIn := q, draws := s.draws + k, events := s.events ++ evs }

/-- A flag or status byte that is not ready: `READY_BIT`, bit 7, is clear (R36). -/
abbrev notReady (P : Params) (b : Byte) : Prop := b.getLsbD P.readyBit = false

/-- The ticks from one tick value to another: the difference modulo 2^TICK_W (R244). -/
abbrev ticksFrom (P : Params) (t0 t1 : Nat) : Nat :=
  if t0 ≤ t1 then t1 - t0 else t1 + 2 ^ P.tickW - t0

/-- A flag or status byte that is ready (R36). -/
abbrev isReady (P : Params) (b : Byte) : Prop := b.getLsbD P.readyBit = true

/-- Answers Ok to `n` calls that receive nothing. -/
def okAnswers (n : Nat) : List (Option Answer) := List.replicate n (some (.ok []))

/-- Answers Ok that give these bytes, one to a call. -/
def byteAnswers (l : List Byte) : List (Option Answer) := l.map (fun b => some (.ok [b]))

/-- The event of a frame answered Ok with received bytes. -/
def sent (f : Frame) (rx : List Byte) : Event := .btp f (.ok rx)

end Sys2Proof.Machine

namespace Sys2Proof

/-! ## The kinds of instruction -/

/-- The 21 wire commands (R104). -/
def Instr.isWire (i : Instr) : Bool := (frameOf Config.params (ctxDefault Config.params) i).isSome

/-- The host commands and the reserved codes (R98). -/
def Instr.isHost (i : Instr) : Bool := (encodeCommand Config.params i).isSome

/-- The wire commands that are a pair WREN, frame (R159, R164, R166, R170). -/
def Instr.isPair : Instr → Bool
  | .wrsr _ | .wrnvcr _ _ | .wrvcr _ _ | .writeStd _ _ | .writeDual _ _ | .writeQuad _ _ | .writeOctalExt _ _ => true
  | _ => false

/-- The first frame a wire command issues: WREN for a pair, else its own (R74, R155). -/
def firstFrame (P : Params) (c : Ctx) (i : Instr) : Option Frame :=
  if i.isPair = true then some (bareFrame P.op.wren c) else frameOf P c i

/-! ## The Mode Context (R22) -/

/-- The default context, or one DERIVE gives for some width, flag and record: a consistent set of all eight fields (R22,
R150, R153). -/
def Ctx.derived (P : Params) (c : Ctx) : Prop := c = ctxDefault P ∨ ∃ w dtr cfg, deriveCtx P w dtr cfg = some c

end Sys2Proof

namespace Sys2Proof.Machine

open Sys2Proof

/-! ## Pins (R29, R268, R324) -/

/-- Who must own the pins when a step is made: the sequencer for a line step and for giving the pins back, the
primitive for every other. -/
def Micro.pinsNeeded : Micro → PinOwner
  | .op (.line _ _) | .givePins => .seq
  | _ => .btp

/-- Who owns the pins after a step. -/
def Micro.pinsAfter (m : Micro) (o : PinOwner) : PinOwner :=
  match m with
  | .takePins => .seq
  | .givePins => .btp
  | _ => o

/-- The steps in waiting take and give back the pins in order and leave them with the primitive. -/
def pinsOk : PinOwner → List Micro → Bool
  | o, [] => o == .btp
  | o, m :: rest => m.pinsNeeded == o && pinsOk (m.pinsAfter o) rest

/-! ## The privileged window (R32, R229, R294) -/

/-- A step that may not be made while the window is open: it ends the command, or may halt the block. -/
def Micro.needsClosed : Micro → Bool
  | .giveRsp _ | .enterFatal | .op (.mmSetWrite _) | .op (.mmSetRead _) | .op .mmEnable => true
  | _ => false

/-- Whether the window counts as open after a step. -/
def Micro.windowAfter (m : Micro) (p : Bool) : Bool :=
  match m with
  | .openWindow => true
  | .closeWindow | .exitWindow => false
  | _ => p

/-- The steps in waiting close the window before the command ends. -/
def windowOk : Bool → List Micro → Bool
  | p, [] => !p
  | p, m :: rest => !(m.needsClosed && p) && windowOk (m.windowAfter p) rest

/-! ## The sequence state (R24, R25) -/

/-- The steps in waiting leave `seq` at a resting value when the command ends. -/
def seqOk : Seq → List Micro → Bool
  | q, [] => q.resting
  | q, .advance :: rest => seqOk q.succ rest
  | _, .enterReset :: rest => seqOk .reset rest
  | _, .enterError :: rest => seqOk .error rest
  | _, .enterFatal :: rest => seqOk .fatal rest
  | q, .giveRsp _ :: rest => q.resting && seqOk q rest
  | q, _ :: rest => seqOk q rest

/-! ## The memory map (R258) -/

/-- `mm` is set only after both templates are in the primitive. -/
def mmapOk : Bool → Bool → List Micro → Bool
  | _, _, [] => true
  | _, r, .op (.mmSetWrite _) :: rest => mmapOk true r rest
  | w, _, .op (.mmSetRead _) :: rest => mmapOk w true rest
  | w, r, .setMm :: rest => w && r && mmapOk w r rest
  | w, r, _ :: rest => mmapOk w r rest

/-! ## The invariant -/

/-- Steps that are never in waiting: host commands, and a second frame of what is no wire command. -/
def Micro.legal : Micro → Bool
  | .op i => !i.isHost
  | .second i => i.isWire
  | _ => true

/-- The running command is `initialize`. -/
def isInit : Option Instr → Bool
  | some (.init _ _ _) => true
  | _ => false

/-- A step of `initialize` only: it moves `seq` (R25, R211). -/
def Micro.movesSeq : Micro → Bool
  | .advance | .enterReset | .enterError => true
  | _ => false

/-- A step after which nothing is left to make: the response or the halt (R286, R288). -/
def Micro.closes : Micro → Bool
  | .giveRsp _ | .enterFatal => true
  | _ => false

/-- A step that writes `res` (R26). -/
def Micro.writesRes : Micro → Bool
  | .setRes _ | .conclude => true
  | _ => false

/-- Nothing is left but the response. -/
def onlyResponse : List Micro → Bool
  | [.giveRsp _] => true
  | _ => false

/-- Nothing is left but a result that is not Ok and the response. -/
def onlyFailure : List Micro → Bool
  | [.setRes r, .giveRsp _] => !r.isOk
  | _ => false

/-- The steps in waiting end the command in the one way there is: the last is the response or the halt, the result is
written right before the response and nowhere else, and ERROR is entered right before a result that is not Ok (R210,
R211, R286, R288, R300). -/
def endOk : List Micro → Bool
  | [] => true
  | m :: rest =>
    if m.closes = true then rest.isEmpty
    else if m.writesRes = true then onlyResponse rest
    else if m = .enterError then onlyFailure rest
    else !rest.isEmpty && endOk rest

/-- What every reachable state satisfies. -/
structure State.Inv (s : State) : Prop where
  /-- the Mode Context is one that DERIVE gives (R22) -/
  ctx      : s.ctx.derived s.params
  /-- and so is a context that waits to be committed (R206) -/
  ret      : ∀ c, s.ret = .ctx c → c.derived s.params
  /-- no step in waiting is a host command (R300) -/
  legal    : s.agenda.all Micro.legal = true
  /-- the pins go back to the primitive (R268) -/
  pins     : pinsOk s.pinOwner s.agenda = true
  /-- the privileged window is closed before the command ends (R32) -/
  window   : windowOk s.privWin s.agenda = true
  /-- only `reProvision` opens it (R294) -/
  opener   : (s.privWin = true ∨ .openWindow ∈ s.agenda) → s.cmd = some .reprov
  /-- `seq` rests when the command ends (R25) -/
  seq      : seqOk s.seq s.agenda = true
  /-- only `initialize` moves `seq` through the intermediate values (R25) -/
  mover    : (s.seq.resting = false ∨ s.agenda.any Micro.movesSeq = true) → isInit s.cmd = true
  /-- steps are in waiting exactly while a command runs (R300, R310) -/
  idle     : s.cmd = none ↔ s.agenda = []
  /-- and they end with the result and the response, or the halt (R286, R288, R300) -/
  last     : endOk s.agenda = true
  /-- in FATAL nothing runs (R288) -/
  fatal    : s.seq = .fatal → s.cmd = none
  /-- tick values have `TICK_W` bits (R28) -/
  ticks    : s.pollStart < 2 ^ s.params.tickW ∧ s.now < 2 ^ s.params.tickW
  /-- the shadows, and an image that waits to be stored, have `REG_BLOCK_LEN` bytes (R27, R204) -/
  images   : s.nvShadow.length = s.params.regBlockLen ∧ s.vShadow.length = s.params.regBlockLen ∧
    ∀ img, s.ret = .image img → img.length = s.params.regBlockLen
  /-- `mm` waits for both templates (R258) -/
  mapOk    : mmapOk s.primWrite.isSome s.primRead.isSome s.agenda = true
  /-- with `mm = 1` the primitive holds both templates (R258; notes/assumptions/17.md) -/
  mapped   : s.mm = true → s.primWrite.isSome = true ∧ s.primRead.isSome = true

/-- A host request that the spec gives a meaning in a state: a command word that decodes, or a window access while
the window is set up (R64, R99). -/
def meaningful (s : State) : HostReq → Prop
  | .cmd word => ∃ i, decode s.params (.command word) = .ok i
  | .load _ _ => s.mm = true
  | .store _ _ => s.mm = true

/-! ## Write-enable pairs (R74, R314) -/

/-- The instruction bytes of write-type frames (R74). -/
def writeOpcodes (P : Params) : List Byte :=
  [P.op.wrsr, P.op.wrnvcr, P.op.wrvcr, P.op.writeStd, P.op.writeDual, P.op.writeQuad,
   P.op.writeOctalExt, P.op.eraseChip]

/-- A WREN frame answered Ok. -/
def Event.isWren (P : Params) : Event → Bool
  | .btp f (.ok _) => f.instr == P.op.wren
  | _ => false

/-- A write-type frame of the sequencer, whatever its answer. -/
def Event.isWrite (P : Params) : Event → Bool
  | .btp f _ => (writeOpcodes P).contains f.instr
  | _ => false

/-- Every write-type frame of a history follows immediately on a WREN frame answered Ok; `prev` says whether the event
before the history is one. -/
def pairedFrom (P : Params) : Bool → List Event → Bool
  | _, [] => true
  | prev, e :: es => (!e.isWrite P || prev) && pairedFrom P (e.isWren P) es

/-- Whether a history ends with a WREN frame answered Ok. -/
def endsWithWren (P : Params) (es : List Event) : Bool :=
  match es.getLast? with
  | some e => e.isWren P
  | none => false

/-- A step that issues a write-type frame without a WREN of its own. -/
def Micro.needsWren : Micro → Bool
  | .second _ | .op .eraseChipFrame | .exitWrite => true
  | _ => false

/-- Steps that record no event. The others either record one, or may put steps in waiting that record one first. -/
def Micro.silent : Micro → Bool
  | .advance | .clearMm | .setMm | .defaultCtx | .commitCtx | .storeNv | .storeV | .takePins | .givePins
  | .clearBlk | .gather | .checkReady | .checkProtect _ | .verify _ | .startTimer | .openWindow | .bulkVerify
  | .closeWindow | .conclude | .enterReset | .enterError | .setRes _ => true
  | .op (.encodeRecord _) | .op (.decodeImage _) | .op (.derive _ _ _) => true
  | _ => false

/-- Whether a WREN frame is the last event after a step that was answered Ok. -/
def Micro.wrenAfter (m : Micro) (prev : Bool) : Bool :=
  match m with
  | .op .wren => true
  | m => m.silent && prev

/-- Every step in waiting that issues a bare write-type frame comes right after a WREN. -/
def agendaPaired : Bool → List Micro → Bool
  | _, [] => true
  | prev, m :: rest => (!m.needsWren || prev) && agendaPaired (m.wrenAfter prev) rest

/-- The write-enable pair law holds of the history and of what is in waiting (R74, R314). Opcodes must be pairwise
distinct for a frame to tell its command (R104). -/
structure State.WriteEnabled (s : State) : Prop where
  distinct : s.params.Distinct
  history  : pairedFrom s.params false s.events = true
  waiting  : agendaPaired (endsWithWren s.params s.events) s.agenda = true

/-! ## What the composites leave in the history -/

/-- The port events of `busReset()` (R269). -/
def busResetEvents (P : Params) : List Event :=
  [.busDeinit] ++ P.resetSeq.map (fun p => .line p.1 p.2) ++ [.busReinit]

/-- The events of one sub-register write: the pair WREN, write (R164, R166). -/
def subregWriteEvents (P : Params) (c : Ctx) (op : Byte) (i : SubregIndex) (b : Byte) : List Event :=
  [sent (bareFrame P.op.wren c) [], sent (subregWriteFrame op c i b) []]

/-- The events of a block write of an image without the indices `skip` (R168). -/
def blockWriteEvents (P : Params) (c : Ctx) (op : Byte) (img : Image) (skip : List SubregIndex) :
    List Event :=
  (coveredBytes img skip).flatMap (fun p => subregWriteEvents P c op (subregIndex p.2) p.1)

/-- The events of a block read that gives the bytes of an image, without the indices `skip` (R167). -/
def blockReadEvents (c : Ctx) (op : Byte) (img : Image) (skip : List SubregIndex) : List Event :=
  (coveredBytes img skip).map (fun p => sent (subregReadFrame op c (subregIndex p.2)) [p.1])

/-- The events of `wrsr(b)` and a `rdsr()` that gives `st` (R158, R159). -/
def statusEvents (P : Params) (c : Ctx) (b st : Byte) : List Event :=
  [sent (bareFrame P.op.wren c) [], sent (regWriteFrame P.op.wrsr c b) [],
   sent (regReadFrame P.op.rdsr c 1) [st]]

end Sys2Proof.Machine
end

