-- ==== Sys2Proof/Certificates/Slice0/Obligations.lean ====
section
/-! DEFINITION. The statements. Each docstring names the rule of spec/ it formalises, or the file it rests on. -/

open Sys2Proof Sys2Proof.Machine

/-! ## The Register Codec and the Mode Context derivation -/

/-- 40_register_codec.md R130, 00_scope.md R7: with images of nine bytes, the default, ENCODE gives the nine bytes of
the record, `RESERVED_BYTE` (0xFF by default) at byte 2 and the packed byte at byte 8; it has no other effect. That the
returned value stands in `ret` is the model's form (notes/assumptions/15.md). Images of another length are in
`CodecLaws`. -/
def Obligations.EncodeGivesTheImage : Prop :=
  ∀ (c : Record) (s : State), ∃ p : Byte,
    p.toNat = c.erasePol.toNat * 0x80 + c.otpLock.toNat * 0x04 + c.rstPin.toNat * 0x02 + c.wrMode.toNat * 0x01 ∧
    (s.params.regBlockLen = 9 → exec (.encodeRecord c) s = .next { s with
      ret := .image [c.ifMode, c.dummy, s.params.reservedByte, c.drv, c.strobe, c.addrMode, c.xip, c.wrap, p] }) ∧
    Config.params.regBlockLen = 9 ∧ Config.params.reservedByte = 0xFF

/-- 40_register_codec.md R131 (the spec's decision D11: reserved positions are ignored): DECODE copies every field from
its position and cannot reject; it has no other effect. That bytes past the nine are ignored too is the model's choice
(notes/assumptions/32.md). That the returned value stands in `ret` is the model's form (notes/assumptions/15.md). -/
def Obligations.DecodeReadsEveryField : Prop :=
  ∀ (b0 b1 b2 b3 b4 b5 b6 b7 b8 : Byte) (more : List Byte) (s : State),
    exec (.decodeImage ([b0, b1, b2, b3, b4, b5, b6, b7, b8] ++ more)) s =
      .next { s with
        ret := .record
          { ifMode := b0, dummy := b1, drv := b3, strobe := b4, addrMode := b5, xip := b6, wrap := b7,
            erasePol := b8.getLsbD 7, otpLock := b8.getLsbD 2, rstPin := b8.getLsbD 1, wrMode := b8.getLsbD 0 } }

/-- 40_register_codec.md R132 (its clauses (b), (c) are the spec's own derivations), R133: the laws of the codec. With
images of nine bytes: decoding an encoded record gives it back; encoding a decoded image gives it back exactly when its
reserved positions are as they should be, and otherwise puts right those and no other; ENCODE is injective. Neither
operation touches any field but the returned value. The two images of bring-up differ at most in the OTP-lock bit. What
an image of another length holds, that the first and the injectivity law hold of a longer one, and that the two images
of bring-up keep to R133 at any length, is the model's choice (notes/assumptions/32.md). That the returned value stands
in `ret` is the model's form (notes/assumptions/15.md). -/
def Obligations.CodecLaws : Prop :=
  ∀ P : Params,
    (∀ c : Record, encodeImage P c =
      [c.ifMode, c.dummy, P.reservedByte, c.drv, c.strobe, c.addrMode, c.xip, c.wrap, packedByte c].take
        P.regBlockLen ++ List.replicate (P.regBlockLen - 9) P.reservedByte) ∧
    (9 ≤ P.regBlockLen → ∀ c : Record, decodeRecord (encodeImage P c) = c) ∧
    (P.regBlockLen = 9 → ∀ img : Image, img.length = 9 → (encodeImage P (decodeRecord img) = img ↔
      (img.getD 2 0 = P.reservedByte ∧ ∀ b, 3 ≤ b → b ≤ 6 → (img.getD 8 0).getLsbD b = false))) ∧
    (P.regBlockLen = 9 → ∀ img : Image, img.length = 9 →
      (∀ k, k ≠ 2 → k ≠ 8 → (encodeImage P (decodeRecord img))[k]? = img[k]?) ∧
      (encodeImage P (decodeRecord img))[2]? = some P.reservedByte ∧
      (encodeImage P (decodeRecord img))[8]? = some (img.getD 8 0 &&& 0x87)) ∧
    (9 ≤ P.regBlockLen → ∀ c d : Record, encodeImage P c = encodeImage P d → c = d) ∧
    (∀ (c : Record) (img : Image) (s : State), (∃ r, exec (.encodeRecord c) s = .next { s with ret := r }) ∧
      (∃ r, exec (.decodeImage img) s = .next { s with ret := r })) ∧
    (∀ c : Record, nvImage P c = encodeImage P { c with otpLock := false } ∧ vImage P c = encodeImage P c ∧
      (∀ k, k ≠ 8 → (nvImage P c)[k]? = (vImage P c)[k]?) ∧
      (∀ b, b ≠ 2 → ((nvImage P c).getD 8 0).getLsbD b = ((vImage P c).getD 8 0).getLsbD b) ∧
      ((nvImage P c).getD 8 0).getLsbD 2 = false ∧
      (8 < P.regBlockLen → ((vImage P c).getD 8 0).getLsbD 2 = c.otpLock) ∧
      (c.otpLock = false → nvImage P c = vImage P c))

/-- The packed byte, bit for bit, 30_encoding.md R96: erase-value polarity at bit 7, OTP-lock at bit 2, reset-pin-enable
at bit 1, write-mode at bit 0 and zeros elsewhere; the same as a number; its sixteen values; it is byte 8 of the image of
nine bytes. -/
def Obligations.PackedByteIsBitExact : Prop :=
  (∀ (c : Record) (b : Nat), (packedByte c).getLsbD b =
    if b = 7 then c.erasePol else if b = 2 then c.otpLock else if b = 1 then c.rstPin else if b = 0 then c.wrMode
    else false) ∧
  (∀ c : Record, (packedByte c).toNat =
    c.erasePol.toNat * 0x80 + c.otpLock.toNat * 0x04 + c.rstPin.toNat * 0x02 + c.wrMode.toNat * 0x01) ∧
  (∀ x : Byte, (∃ c : Record, packedByte c = x) ↔ x.toNat ≤ 0x07 ∨ (0x80 ≤ x.toNat ∧ x.toNat ≤ 0x87)) ∧
  (∀ (P : Params) (c : Record), P.regBlockLen = 9 → (encodeImage P c)[8]? = some (packedByte c))

/-- 40_register_codec.md R133: with images of nine bytes, the two images of bring-up are the encodings of the record
without and with OTP-lock; they are equal in bytes 0 to 7, differ at most in bit 2 of byte 8, which carries OTP-lock in
the volatile image only, and are equal when OTP-lock is 0; and the rule's example. Images of another length are in
`CodecLaws`. -/
def Obligations.BringupImagesDifferInOtpLockOnly : Prop :=
  (∀ (P : Params) (c : Record), P.regBlockLen = 9 →
    nvImage P c = encodeImage P { c with otpLock := false } ∧ vImage P c = encodeImage P c ∧
    (nvImage P c).length = 9 ∧ (vImage P c).length = 9 ∧
    (∀ k, k < 8 → (nvImage P c)[k]? = (vImage P c)[k]?) ∧
    (∀ b, b ≠ 2 → ((nvImage P c).getD 8 0).getLsbD b = ((vImage P c).getD 8 0).getLsbD b) ∧
    ((nvImage P c).getD 8 0).getLsbD 2 = false ∧ ((vImage P c).getD 8 0).getLsbD 2 = c.otpLock ∧
    (c.otpLock = false → nvImage P c = vImage P c)) ∧
  (∃ c : Record, c = { ifMode := 0xFF, dummy := 0x10, drv := 0xFF, strobe := 0xFF, addrMode := 0xFF, xip := 0xFF,
                       wrap := 0xFF, erasePol := true, otpLock := true, rstPin := true, wrMode := false } ∧
    nvImage Config.params c = [0xFF, 0x10, 0xFF, 0xFF, 0xFF, 0xFF, 0xFF, 0xFF, 0x82] ∧
    vImage Config.params c = [0xFF, 0x10, 0xFF, 0xFF, 0xFF, 0xFF, 0xFF, 0xFF, 0x86])

/-- 41_mode_context.md R141 to R144, R146, R149, R151 (with the spec's decisions D3, D4, D5, D7): DERIVE gives each
supported width its eight fields and any other width ConfigError; it has no other effect. That the returned value stands
in `ret` is the model's form (notes/assumptions/15.md). -/
def Obligations.DeriveFollowsTheTable : Prop :=
  ∀ (w : Nat) (dtr : Bool) (cfg : Record) (s : State),
    exec (.derive w dtr cfg) s = .next { s with
      ret :=
        if s.params.widths.contains w = false then .configError
        else if w = 1 then .ctx
          { ilm := .one, alm := .one, dlm := .one,
            abw := if cfg.addrMode = s.params.addrModeDefault then .bits24 else .bits32,
            rop := .fast, wop := .std, dcd := cfg.dummy, dcc := s.params.nonOctalCfgDummy }
        else if w = 2 then .ctx
          { ilm := s.params.instrLines.two, alm := .two, dlm := .two,
            abw := if cfg.addrMode = s.params.addrModeDefault then .bits24 else .bits32,
            rop := .dual, wop := .dual, dcd := cfg.dummy, dcc := s.params.nonOctalCfgDummy }
        else if w = 4 then .ctx
          { ilm := s.params.instrLines.four, alm := .four, dlm := .four,
            abw := if cfg.addrMode = s.params.addrModeDefault then .bits24 else .bits32,
            rop := .quad, wop := .quad, dcd := cfg.dummy, dcc := s.params.nonOctalCfgDummy }
        else if w = 8 then .ctx
          { ilm := s.params.instrLines.eight, alm := .eight, dlm := .eight,
            abw := if cfg.addrMode = s.params.addrModeDefault then .bits24 else .bits32,
            rop := if dtr = true then .octalDtr else .octal, wop := .octalExt, dcd := cfg.dummy,
            dcc := s.params.octalCfgDummy }
        else .configError }

/-! ## Wire commands: one frame, or the pair WREN, frame -/

/-- 42_protocol_ops.md R156, R157, R161, R171: WREN, WRDI, CLFSR and ERASE.CHIP are one frame of the opcode alone on
`ctx.ilm` lines. Answered Ok nothing but the history and the inputs changes; answered Fail outside `initialize` and
`reProvision`, the command ends with Transport. With no host command running, which no rule does, that it ends so is the
model's choice (notes/assumptions/14.md). That ERASE.CHIP as an instruction is its frame alone, and what counts as a
step, are the model's readings (notes/assumptions/1.md, notes/assumptions/9.md). -/
def Obligations.BareCommandsIssueTheOpcode : Prop :=
  ∀ (s : State) (i : Instr) (op : Byte) (q : List (Option Answer)),
    (i, op) ∈ [(Instr.wren, s.params.op.wren), (.wrdi, s.params.op.wrdi), (.clfsr, s.params.op.clfsr),
               (.eraseChipFrame, s.params.op.eraseChip)] →
    s.busFree →
    (s.btpIn = some (.ok []) :: q →
      exec i s = .next { s with
        btpIn := q, draws := s.draws + 1,
        events := s.events ++ [.btp { instr := op, ilines := s.ctx.ilm, addr := none, dummy := 0, data := none }
          (.ok [])] }) ∧
    (s.btpIn = some .fail :: q → isInit s.cmd = false → s.cmd ≠ some .reprov → s.resetIn = false →
      ∃ t, exec i s = .next t ∧ run 2 t = .next (s.ended .transport q 1
        [.btp { instr := op, ilines := s.ctx.ilm, addr := none, dummy := 0, data := none } .fail,
         .rsp .transport []]))

/-- 42_protocol_ops.md R158, R160, R162: RDSR and RDFSR receive one byte, RDID `ID_LEN` = 3, with `ctx.dcc` dummy cycles
and no address; the bytes are kept and nothing else changes but the history and the inputs. That the bytes stand in the
temporary `rx` is the model's form (notes/assumptions/26.md). -/
def Obligations.RegisterReadsKeepTheBytes : Prop :=
  ∀ (s : State) (i : Instr) (op : Byte) (n : Length) (l : List Byte) (q : List (Option Answer)),
    (i, op, n) ∈ [(Instr.rdsr, s.params.op.rdsr, (1 : Length)), (.rdfsr, s.params.op.rdfsr, 1),
      (.rdid, s.params.op.rdid, s.params.idLen)] →
    s.busFree → s.btpIn = some (.ok l) :: q → l.length = n.toNat →
    exec i s = .next { s with
      rx := l, btpIn := q, draws := s.draws + 1,
      events := s.events ++ [.btp { instr := op, ilines := s.ctx.ilm, addr := none, dummy := s.ctx.dcc,
                                    data := some (.recv s.ctx.dlm n) } (.ok l)] }

/-- 42_protocol_ops.md R163, R165: RDNVCR and RDVCR read the byte of sub-register `k`, its index as the address on
`ctx.alm` lines and `ctx.abw` bits, with `ctx.dcc` dummy cycles. That an index has up to 32 bits is the model's choice
(notes/assumptions/31.md). That the byte stands in the temporary `rx` is the model's form (notes/assumptions/26.md). -/
def Obligations.SubregisterReadsKeepTheByte : Prop :=
  ∀ (s : State) (k : SubregIndex) (i : Instr) (op b : Byte) (q : List (Option Answer)),
    (i, op) ∈ [(Instr.rdnvcr k, s.params.op.rdnvcr), (.rdvcr k, s.params.op.rdvcr)] →
    s.busFree → s.btpIn = some (.ok [b]) :: q →
    exec i s = .next { s with
      rx := [b], btpIn := q, draws := s.draws + 1,
      events := s.events ++
        [.btp { instr := op, ilines := s.ctx.ilm,
                addr := some { addr := k, alines := s.ctx.alm, awidth := s.ctx.abw },
                dummy := s.ctx.dcc, data := some (.recv s.ctx.dlm 1) } (.ok [b])] }

/-- 42_protocol_ops.md R169: each of the five READ commands is one frame of its own opcode with the operands unchanged
and `ctx.dcd` dummy cycles, whatever the address and the length. That the bytes stand in the temporary `rx` is the
model's form (notes/assumptions/26.md). -/
def Obligations.ArrayReadsAreOneFrame : Prop :=
  ∀ (s : State) (a : Address) (n : Length) (i : Instr) (op : Byte) (l : List Byte) (q : List (Option Answer)),
    (i, op) ∈ [(Instr.readFast a n, s.params.op.readFast), (.readDual a n, s.params.op.readDual),
               (.readQuad a n, s.params.op.readQuad), (.readOctal a n, s.params.op.readOctal),
               (.readOctalDtr a n, s.params.op.readOctalDtr)] →
    s.busFree → s.btpIn = some (.ok l) :: q → l.length = n.toNat →
    exec i s = .next { s with
      rx := l, btpIn := q, draws := s.draws + 1,
      events := s.events ++
        [.btp { instr := op, ilines := s.ctx.ilm,
                addr := some { addr := a, alines := s.ctx.alm, awidth := s.ctx.abw },
                dummy := s.ctx.dcd, data := some (.recv s.ctx.dlm n) } (.ok l)] }

/-- 42_protocol_ops.md R159, R164, R166: WRSR, WRNVCR and WRVCR are the two frames WREN and their own, with nothing
between and no dummy cycles; nothing but the history and the inputs changes. That a sub-register index has up to 32 bits
is the model's choice (notes/assumptions/31.md). That the pair is one instruction whose second frame waits in the agenda
is the model's reading (notes/assumptions/1.md, notes/assumptions/9.md). -/
def Obligations.RegisterWritesArePairs : Prop :=
  ∀ (s : State) (k : SubregIndex) (b : Byte) (i : Instr) (op : Byte) (ap : Option AddrPhase) (q : List (Option Answer)),
    (i, op, ap) ∈ [(Instr.wrsr b, s.params.op.wrsr, none),
      (.wrnvcr k b, s.params.op.wrnvcr, some { addr := k, alines := s.ctx.alm, awidth := s.ctx.abw }),
      (.wrvcr k b, s.params.op.wrvcr, some { addr := k, alines := s.ctx.alm, awidth := s.ctx.abw })] →
    s.busFree → s.resetIn = false → s.btpIn = some (.ok []) :: some (.ok []) :: q →
    ∃ t, exec i s = .next t ∧ step t = .next { s with
      btpIn := q, draws := s.draws + 2,
      events := s.events ++
        [.btp { instr := s.params.op.wren, ilines := s.ctx.ilm, addr := none, dummy := 0, data := none } (.ok []),
         .btp { instr := op, ilines := s.ctx.ilm, addr := ap, dummy := 0,
                data := some (.send s.ctx.dlm [b]) } (.ok [])] }

/-- 42_protocol_ops.md R170: each of the four WRITE commands is the two frames WREN and its own, one data frame whatever
the length. That the pair is one instruction whose second frame waits in the agenda is the model's reading
(notes/assumptions/1.md, notes/assumptions/9.md). -/
def Obligations.ArrayWritesArePairs : Prop :=
  ∀ (s : State) (a : Address) (v : List Byte) (i : Instr) (op : Byte) (q : List (Option Answer)),
    (i, op) ∈ [(Instr.writeStd a v, s.params.op.writeStd), (.writeDual a v, s.params.op.writeDual),
               (.writeQuad a v, s.params.op.writeQuad), (.writeOctalExt a v, s.params.op.writeOctalExt)] →
    s.busFree → s.resetIn = false → s.btpIn = some (.ok []) :: some (.ok []) :: q →
    ∃ t, exec i s = .next t ∧ step t = .next { s with
      btpIn := q, draws := s.draws + 2,
      events := s.events ++
        [.btp { instr := s.params.op.wren, ilines := s.ctx.ilm, addr := none, dummy := 0, data := none } (.ok []),
         .btp { instr := op, ilines := s.ctx.ilm,
                addr := some { addr := a, alines := s.ctx.alm, awidth := s.ctx.abw }, dummy := 0,
                data := some (.send s.ctx.dlm v) } (.ok [])] }

/-- 60_exceptions.md R281, R286, R229: when the first frame of any wire command is answered Fail, no more is issued and:
inside `initialize` the sequence goes to ERROR and the command ends with Transport; inside `reProvision` the first error
is kept and the cleanup is what remains; anywhere else the command ends with Transport and `seq` keeps its value. What
remains is in the agenda, the model's form (notes/assumptions/1.md); that a wire command with no host command around it
ends with a Transport response too is the model's choice (notes/assumptions/14.md). That the first frame of a write
command is its WREN is the model's reading (notes/assumptions/9.md). -/
def Obligations.FailedFrameRaisesTransport : Prop :=
  ∀ (s : State) (i : Instr) (f : Frame) (q : List (Option Answer)),
    i.isWire = true → firstFrame s.params s.ctx i = some f → s.busFree → s.btpIn = some .fail :: q →
    ∃ t, exec i s = .next t ∧
      (s.cmd = some .reprov → t = { s with btpIn := q, draws := s.draws + 1, events := s.events ++ [.btp f .fail],
                                           err := s.err.or (some .transport), agenda := cleanupProgram }) ∧
      (s.cmd ≠ some .reprov → s.resetIn = false →
        ∃ n, run n t = .next { s.ended .transport q 1 [.btp f .fail, .rsp .transport []] with
                               seq := if isInit s.cmd = true then .error else s.seq })

/-- 60_exceptions.md R281, R286, R229: the same of the second frame of a write pair: inside `initialize`, inside
`reProvision`, anywhere else. The agenda and the case of no host command are the model's (notes/assumptions/1.md,
notes/assumptions/14.md). That the pair is one instruction is the model's reading (notes/assumptions/9.md). -/
def Obligations.FailedSecondFrameRaisesTransport : Prop :=
  ∀ (s : State) (i : Instr) (f : Frame) (rest : List Micro) (q : List (Option Answer)),
    s.agenda = .second i :: rest → i.isPair = true → frameOf s.params s.ctx i = some f → s.busFree →
    s.resetIn = false → s.btpIn = some .fail :: q →
    ∃ t, step s = .next t ∧
      (s.cmd = some .reprov → t = { s with btpIn := q, draws := s.draws + 1, events := s.events ++ [.btp f .fail],
                                           err := s.err.or (some .transport), agenda := cleanupProgram }) ∧
      (s.cmd ≠ some .reprov →
        ∃ n, run n t = .next { s.ended .transport q 1 [.btp f .fail, .rsp .transport []] with
                               seq := if isInit s.cmd = true then .error else s.seq })

/-- 93_implementation_defined.md U3, 91_not_in_source.md N31: a call that has not returned leaves the instruction the
next one to run, and nothing else happens. The model's choice (notes/assumptions/2.md): one step passes. The agenda is
the model's form (notes/assumptions/1.md). -/
def Obligations.UnansweredCallWaits : Prop :=
  ∀ (s : State) (i : Instr) (q : List (Option Answer)),
    i.isWire = true → s.busFree → s.btpIn = none :: q →
    exec i s = .next { s with btpIn := q, draws := s.draws + 1, agenda := .op i :: s.agenda }

/-- 42_protocol_ops.md R155, 30_encoding.md R92: whatever the environment answers, a wire command on a free bus gives a
next state, the received bytes of an Ok frame are as many as the frame asks for, and no register of R20 changes (a
failure writes `seq` and `res` by steps of their own, R286). What counts as a step, and that a scripted answer of
another length is read as free bytes of the right one, are the model's readings (notes/assumptions/1.md,
notes/assumptions/4.md). That a call not yet returned is a step that gives a next state, where
93_implementation_defined.md U3 says stuck, is the model's choice (notes/assumptions/2.md). -/
def Obligations.WireCommandsWriteNoRegister : Prop :=
  ∀ (s : State) (i : Instr), i.isWire = true → s.busFree →
    ∃ t, exec i s = .next t ∧
      (∀ f l, t.events = s.events ++ [.btp f (.ok l)] → l.length = f.rxLen) ∧
      t.ctx = s.ctx ∧ t.seq = s.seq ∧ t.res = s.res ∧ t.nvShadow = s.nvShadow ∧ t.vShadow = s.vShadow ∧
      t.pollStart = s.pollStart ∧ t.pinOwner = s.pinOwner ∧ t.mm = s.mm ∧ t.privWin = s.privWin

/-! ## Host commands of one or two frames -/

/-- 42_protocol_ops.md R169: `read(address, length)` is one frame of the opcode `ctx.rop` names, answered with the bytes
in the order received. Acceptance in UNINIT, READY and ERROR is the spec's decision D28 (notes/assumptions/8.md); what
counts as a step is notes/assumptions/1.md. -/
def Obligations.HostReadReturnsTheBytes : Prop :=
  ∀ (s : State) (a : Address) (n : Length) (l : List Byte) (q : List (Option Answer)),
    s.quiet → s.btpIn = some (.ok l) :: q → l.length = n.toNat →
    ∃ t, exec (.read a n) s = .next t ∧ run 3 t = .next (s.ended .ok q 1
      [.cmd (.read a n),
       .btp { instr := s.ctx.rop.opcode s.params, ilines := s.ctx.ilm,
              addr := some { addr := a, alines := s.ctx.alm, awidth := s.ctx.abw },
              dummy := s.ctx.dcd, data := some (.recv s.ctx.dlm n) } (.ok l),
       .rsp .ok l])

/-- 42_protocol_ops.md R170: `write(address, bytes)` is WREN and one frame of the opcode `ctx.wop` names, with no poll
and no read-back. Acceptance in UNINIT, READY and ERROR is the spec's decision D28 (notes/assumptions/8.md); what counts
as a step is notes/assumptions/1.md. -/
def Obligations.HostWriteIssuesThePair : Prop :=
  ∀ (s : State) (a : Address) (v : List Byte) (q : List (Option Answer)),
    s.quiet → s.btpIn = some (.ok []) :: some (.ok []) :: q →
    ∃ t, exec (.write a v) s = .next t ∧ run 4 t = .next (s.ended .ok q 2
      [.cmd (.write a v),
       .btp { instr := s.params.op.wren, ilines := s.ctx.ilm, addr := none, dummy := 0, data := none } (.ok []),
       .btp { instr := s.ctx.wop.opcode s.params, ilines := s.ctx.ilm,
              addr := some { addr := a, alines := s.ctx.alm, awidth := s.ctx.abw }, dummy := 0,
              data := some (.send s.ctx.dlm v) } (.ok []),
       .rsp .ok []])

/-- 42_protocol_ops.md R170: a write whose WREN or whose data frame is answered Fail ends with Transport, and after a
failed WREN the data frame is not issued. Acceptance in UNINIT, READY and ERROR is the spec's decision D28
(notes/assumptions/8.md); what counts as a step is notes/assumptions/1.md. -/
def Obligations.HostWriteStopsAtTheFailedFrame : Prop :=
  ∀ (s : State) (a : Address) (v : List Byte) (q : List (Option Answer)), s.quiet →
    (s.btpIn = some .fail :: q →
      ∃ t, exec (.write a v) s = .next t ∧ run 3 t = .next (s.ended .transport q 1
        [.cmd (.write a v), .btp (bareFrame s.params.op.wren s.ctx) .fail, .rsp .transport []])) ∧
    (s.btpIn = some (.ok []) :: some .fail :: q →
      ∃ t, exec (.write a v) s = .next t ∧ run 4 t = .next (s.ended .transport q 2
        [.cmd (.write a v), sent (bareFrame s.params.op.wren s.ctx) [],
         .btp (arrayWriteFrame (s.ctx.wop.opcode s.params) s.ctx a v) .fail, .rsp .transport []]))

/-- 42_protocol_ops.md R158, R160, R162: `readStatus()`, `readFlags()` and `readId()` are one frame and respond with the
bytes received, whole and in order; they never wait. Acceptance in UNINIT, READY and ERROR is the spec's decision D28
(notes/assumptions/8.md); what counts as a step is notes/assumptions/1.md. -/
def Obligations.RegisterCommandsRespondWithTheBytes : Prop :=
  ∀ (s : State) (i : Instr) (op : Byte) (n : Length) (l : List Byte) (q : List (Option Answer)),
    (i, op, n) ∈ [(Instr.readStatus, s.params.op.rdsr, (1 : Length)), (.readFlags, s.params.op.rdfsr, 1),
                  (.readId, s.params.op.rdid, s.params.idLen)] →
    s.quiet → s.btpIn = some (.ok l) :: q → l.length = n.toNat →
    ∃ t, exec i s = .next t ∧ run 3 t = .next (s.ended .ok q 1
      [.cmd i,
       .btp { instr := op, ilines := s.ctx.ilm, addr := none, dummy := s.ctx.dcc,
              data := some (.recv s.ctx.dlm n) } (.ok l),
       .rsp .ok l])

/-- 42_protocol_ops.md R161: `clearFlags()` is one CLFSR frame, not preceded by a write-enable. Acceptance in UNINIT,
READY and ERROR is the spec's decision D28 (notes/assumptions/8.md); what counts as a step is notes/assumptions/1.md. -/
def Obligations.ClearFlagsIssuesOneFrame : Prop :=
  ∀ (s : State) (q : List (Option Answer)), s.quiet → s.btpIn = some (.ok []) :: q →
    ∃ t, exec .clearFlags s = .next t ∧ run 3 t = .next (s.ended .ok q 1
      [.cmd .clearFlags,
       .btp { instr := s.params.op.clfsr, ilines := s.ctx.ilm, addr := none, dummy := 0, data := none } (.ok []),
       .rsp .ok []])

/-- 30_encoding.md R106, 45_poll_erase.md R241, 43_bringup.md R201 (the spec's decisions D21, D25, D26): three commands
end with no port call at all, and no register changes but `res` and what is named. A reserved `cmd_code` ends with
Config; a poll with timeout 0 ends with Timeout; `initialize` with an illegal width ends with Config and `seq` ERROR.
Acceptance in UNINIT, READY and ERROR is the spec's decision D28 (notes/assumptions/8.md); what counts as a step is
notes/assumptions/1.md. -/
def Obligations.CommandsThatEndWithoutAPortCall : Prop :=
  ∀ s : State, s.seq ≠ .fatal → s.busy = false → s.resetIn = false →
    (∀ code : Byte, ∃ t, exec (.reservedCmd code) s = .next t ∧
      run 2 t = .next (s.ended .config s.btpIn 0 [.cmd (.reservedCmd code), .rsp .config []])) ∧
    (∃ t, exec (.poll 0) s = .next t ∧
      run 2 t = .next (s.ended .timeout s.btpIn 0 [.cmd (.poll 0), .rsp .timeout []])) ∧
    (∀ (cfg : Record) (w : Nat) (dtr : Bool), (w ∉ [1, 2, 4, 8] ∨ w ∉ s.params.widths) →
      ∃ t, exec (.init cfg w dtr) s = .next t ∧
        run 3 t = .next { s.ended .config s.btpIn 0 [.cmd (.init cfg w dtr), .rsp .config []] with seq := .error })

/-! ## Busy-poll and chip erase -/

/-- 45_poll_erase.md R243 (the spec's decision D20): an infinite poll that meets N not-ready flag bytes and then a ready
one ends with Ok after exactly N+1 flag reads and no tick read. Acceptance in UNINIT, READY and ERROR is the spec's
decision D28 (notes/assumptions/8.md); what counts as a step is notes/assumptions/1.md. -/
def Obligations.InfinitePollReadsUntilReady : Prop :=
  ∀ (s : State) (fs : List Byte) (r : Byte) (q : List (Option Answer)),
    s.quiet → s.params.tInfinite ≠ 0 → (∀ b ∈ fs, notReady s.params b) → isReady s.params r →
    s.btpIn = byteAnswers (fs ++ [r]) ++ q →
    ∃ t, exec (.poll s.params.tInfinite) s = .next t ∧
      run (2 * (fs.length + 1) + 2) t = .next (s.ended .ok q (fs.length + 1)
        ([.cmd (.poll s.params.tInfinite)] ++
         (fs ++ [r]).map (fun b => sent (regReadFrame s.params.op.rdfsr s.ctx 1) [b]) ++ [.rsp .ok []]))

/-- 45_poll_erase.md R242 (the spec's decision D21): a finite poll whose not-ready turns stay within the bound and whose
last flag read shows ready ends with Ok; the tick is read once at the start and once after every not-ready read, and not
after the ready one; `pollStart` holds the first tick. Acceptance in UNINIT, READY and ERROR is the spec's decision D28
(notes/assumptions/8.md); what counts as a step is notes/assumptions/1.md. -/
def Obligations.FinitePollEndsWhenReady : Prop :=
  ∀ (s : State) (timeout t0 : Nat) (turns : List (Byte × Nat)) (r : Byte) (q : List (Option Answer)) (tq : List Nat),
    s.quiet → timeout ≠ 0 → timeout ≠ s.params.tInfinite → t0 < 2 ^ s.params.tickW →
    (∀ p ∈ turns, notReady s.params p.1 ∧ p.2 < 2 ^ s.params.tickW ∧ ticksFrom s.params t0 p.2 ≤ timeout) →
    isReady s.params r →
    s.btpIn = byteAnswers (turns.map Prod.fst ++ [r]) ++ q → s.tickIn = t0 :: turns.map Prod.snd ++ tq →
    ∃ t n, exec (.poll timeout) s = .next t ∧
      run n t = .next { s.ended .ok q (2 * turns.length + 2)
        ([.cmd (.poll timeout), .tick t0] ++
         turns.flatMap (fun p => [sent (regReadFrame s.params.op.rdfsr s.ctx 1) [p.1], .tick p.2]) ++
         [sent (regReadFrame s.params.op.rdfsr s.ctx 1) [r], .rsp .ok []]) with
        tickIn := tq, pollStart := t0 }

/-- 45_poll_erase.md R242, R244 (the spec's decisions D20, D21): a finite poll ends with Timeout at the first not-ready
turn after which the elapsed ticks, modulo 2^TICK_W, are strictly more than the bound. Acceptance in UNINIT, READY and
ERROR is the spec's decision D28 (notes/assumptions/8.md); what counts as a step is notes/assumptions/1.md. -/
def Obligations.FinitePollTimesOut : Prop :=
  ∀ (s : State) (timeout t0 : Nat) (turns : List (Byte × Nat)) (b : Byte) (v : Nat) (q : List (Option Answer))
    (tq : List Nat),
    s.quiet → timeout ≠ 0 → timeout ≠ s.params.tInfinite → t0 < 2 ^ s.params.tickW →
    (∀ p ∈ turns, notReady s.params p.1 ∧ p.2 < 2 ^ s.params.tickW ∧ ticksFrom s.params t0 p.2 ≤ timeout) →
    notReady s.params b → v < 2 ^ s.params.tickW → timeout < ticksFrom s.params t0 v →
    s.btpIn = byteAnswers (turns.map Prod.fst ++ [b]) ++ q → s.tickIn = t0 :: turns.map Prod.snd ++ v :: tq →
    ∃ t n, exec (.poll timeout) s = .next t ∧
      run n t = .next { s.ended .timeout q (2 * turns.length + 3)
        ([.cmd (.poll timeout), .tick t0] ++
         turns.flatMap (fun p => [sent (regReadFrame s.params.op.rdfsr s.ctx 1) [p.1], .tick p.2]) ++
         [sent (regReadFrame s.params.op.rdfsr s.ctx 1) [b], .tick v, .rsp .timeout []]) with
        tickIn := tq, pollStart := t0 }

/-- 45_poll_erase.md R240, R248 (the spec's decision D22): a flag read answered Fail ends any poll with Transport, after
any number of not-ready reads: an infinite one, a finite one whose turns stay within the bound, and the poll of
`eraseChip()`. Acceptance in UNINIT, READY and ERROR is the spec's decision D28 (notes/assumptions/8.md); what counts as
a step is notes/assumptions/1.md. -/
def Obligations.PollEndsAtAFailedFlagRead : Prop :=
  ∀ (s : State) (q : List (Option Answer)), s.quiet →
    (∀ fs : List Byte, s.params.tInfinite ≠ 0 → (∀ b ∈ fs, notReady s.params b) →
      s.btpIn = byteAnswers fs ++ some .fail :: q →
      ∃ t n, exec (.poll s.params.tInfinite) s = .next t ∧
        run n t = .next (s.ended .transport q (fs.length + 1)
          ([.cmd (.poll s.params.tInfinite)] ++
           fs.map (fun b => sent (regReadFrame s.params.op.rdfsr s.ctx 1) [b]) ++
           [.btp (regReadFrame s.params.op.rdfsr s.ctx 1) .fail, .rsp .transport []]))) ∧
    (∀ (timeout t0 : Nat) (turns : List (Byte × Nat)) (tq : List Nat),
      timeout ≠ 0 → timeout ≠ s.params.tInfinite → t0 < 2 ^ s.params.tickW →
      (∀ p ∈ turns, notReady s.params p.1 ∧ p.2 < 2 ^ s.params.tickW ∧ ticksFrom s.params t0 p.2 ≤ timeout) →
      s.btpIn = byteAnswers (turns.map Prod.fst) ++ some .fail :: q → s.tickIn = t0 :: turns.map Prod.snd ++ tq →
      ∃ t n, exec (.poll timeout) s = .next t ∧
        run n t = .next { s.ended .transport q (2 * turns.length + 2)
          ([.cmd (.poll timeout), .tick t0] ++
           turns.flatMap (fun p => [sent (regReadFrame s.params.op.rdfsr s.ctx 1) [p.1], .tick p.2]) ++
           [.btp (regReadFrame s.params.op.rdfsr s.ctx 1) .fail, .rsp .transport []]) with
          tickIn := tq, pollStart := t0 }) ∧
    (∀ fs : List Byte, (∀ b ∈ fs, notReady s.params b) →
      s.btpIn = some (.ok []) :: some (.ok []) :: (byteAnswers fs ++ some .fail :: q) →
      ∃ t n, exec .eraseChip s = .next t ∧
        run n t = .next (s.ended .transport q (fs.length + 3)
          ([.cmd .eraseChip, sent (bareFrame s.params.op.wren s.ctx) [],
            sent (bareFrame s.params.op.eraseChip s.ctx) []] ++
           fs.map (fun b => sent (regReadFrame s.params.op.rdfsr s.ctx 1) [b]) ++
           [.btp (regReadFrame s.params.op.rdfsr s.ctx 1) .fail, .rsp .transport []])))

/-- 45_poll_erase.md R248 (the spec's decision D14): `eraseChip()` issues WREN and ERASE.CHIP and reads the flag
register until it shows ready, without a deadline. Acceptance in UNINIT, READY and ERROR is the spec's decision D28
(notes/assumptions/8.md); what counts as a step is notes/assumptions/1.md. -/
def Obligations.EraseChipPollsUntilReady : Prop :=
  ∀ (s : State) (fs : List Byte) (r : Byte) (q : List (Option Answer)),
    s.quiet → (∀ b ∈ fs, notReady s.params b) → isReady s.params r →
    s.btpIn = some (.ok []) :: some (.ok []) :: (byteAnswers (fs ++ [r]) ++ q) →
    ∃ t, exec .eraseChip s = .next t ∧
      run (2 * (fs.length + 1) + 4) t = .next (s.ended .ok q (fs.length + 3)
        ([.cmd .eraseChip, sent (bareFrame s.params.op.wren s.ctx) [],
          sent (bareFrame s.params.op.eraseChip s.ctx) []] ++
         (fs ++ [r]).map (fun b => sent (regReadFrame s.params.op.rdfsr s.ctx 1) [b]) ++ [.rsp .ok []]))

/-- 45_poll_erase.md R248: a Fail of WREN or of ERASE.CHIP ends `eraseChip()` with Transport and no flag read.
Acceptance in UNINIT, READY and ERROR is the spec's decision D28 (notes/assumptions/8.md); what counts as a step is
notes/assumptions/1.md. -/
def Obligations.FailedEraseDoesNotPoll : Prop :=
  ∀ (s : State) (q : List (Option Answer)), s.quiet →
    (s.btpIn = some .fail :: q →
      ∃ t, exec .eraseChip s = .next t ∧ run 3 t = .next (s.ended .transport q 1
        [.cmd .eraseChip, .btp (bareFrame s.params.op.wren s.ctx) .fail, .rsp .transport []])) ∧
    (s.btpIn = some (.ok []) :: some .fail :: q →
      ∃ t, exec .eraseChip s = .next t ∧ run 4 t = .next (s.ended .transport q 2
        [.cmd .eraseChip, sent (bareFrame s.params.op.wren s.ctx) [],
         .btp (bareFrame s.params.op.eraseChip s.ctx) .fail, .rsp .transport []]))

/-! ## Memory-map setup -/

/-- 46_memory_map.md R257: the two templates, built from the Mode Context alone, have the fields of the rule's table; with
the address value, the length and the data filled in they are the frames of `read` and `write`, and no write-enable
frame is part of the write template. -/
def Obligations.TemplatesAreTheFramesOfReadAndWrite : Prop :=
  ∀ (P : Params) (c : Ctx),
    readTemplate P c = { instr := c.rop.opcode P, ilines := c.ilm, alines := c.alm, awidth := c.abw, dummy := c.dcd,
                         dlines := c.dlm, dir := .dirIn } ∧
    writeTemplate P c = { instr := c.wop.opcode P, ilines := c.ilm, alines := c.alm, awidth := c.abw, dummy := 0,
                          dlines := c.dlm, dir := .dirOut } ∧
    (∀ (a : Address) (n : Length), frameOf P c (selectRead c a n) = some ((readTemplate P c).loadFrame a n)) ∧
    (∀ (a : Address) (v : List Byte), frameOf P c (selectWrite c a v) = some ((writeTemplate P c).storeFrame a v))

/-- 46_memory_map.md R256: each of the three calls answered Ok leaves its argument in the primitive and changes nothing
else but the history and the inputs. That the primitive's copy is state is the model's choice (notes/assumptions/17.md).
The three calls are the spec's decision D31. -/
def Obligations.MapCallsConfigureThePrimitive : Prop :=
  ∀ (s : State) (tw tr : Template) (q : List (Option MmAnswer)), s.busFree → s.mmIn = some .ok :: q →
    exec (.mmSetWrite tw) s = .next { s with
      primWrite := some tw, mmIn := q, draws := s.draws + 1, events := s.events ++ [.mm (.setWrite tw) .ok] } ∧
    exec (.mmSetRead tr) s = .next { s with
      primRead := some tr, mmIn := q, draws := s.draws + 1, events := s.events ++ [.mm (.setRead tr) .ok] } ∧
    exec .mmEnable s = .next { s with
      primTimer := some s.params.mmTimeoutPeriod, mmIn := q, draws := s.draws + 1,
      events := s.events ++ [.mm (.enable true s.params.mmTimeoutPeriod) .ok] }

/-- 46_memory_map.md R257, R258, R260: `enableMemoryMapped()` with three Ok answers makes the three calls in order with
the two templates of the standing context, sets `mm` and ends with Ok. That what the primitive was given stands in State
is the model's choice (notes/assumptions/17.md). The three calls and `mm` are the spec's decisions D31 and D32,
acceptance in UNINIT, READY and ERROR its decision D28 (notes/assumptions/8.md); what counts as a step is
notes/assumptions/1.md. -/
def Obligations.MemoryMapSetupSucceeds : Prop :=
  ∀ (s : State) (q : List (Option MmAnswer)), s.quiet → s.mmIn = some .ok :: some .ok :: some .ok :: q →
    ∃ tw tr : Template,
      tw = { instr := s.ctx.wop.opcode s.params, ilines := s.ctx.ilm, alines := s.ctx.alm,
             awidth := s.ctx.abw, dummy := 0, dlines := s.ctx.dlm, dir := .dirOut } ∧
      tr = { instr := s.ctx.rop.opcode s.params, ilines := s.ctx.ilm, alines := s.ctx.alm, awidth := s.ctx.abw,
             dummy := s.ctx.dcd, dlines := s.ctx.dlm, dir := .dirIn } ∧
      ∃ t, exec .mmap s = .next t ∧ run 6 t = .next { s.ended .ok s.btpIn 3
        [.cmd .mmap, .mm (.setWrite tw) .ok, .mm (.setRead tr) .ok, .mm (.enable true s.params.mmTimeoutPeriod) .ok,
         .rsp .ok []] with
        mm := true, mmIn := q, primWrite := some tw, primRead := some tr, primTimer := some s.params.mmTimeoutPeriod }

/-- 46_memory_map.md R259 (the spec's decision D30): at the first of the three calls that answers Fail the later calls
are not made, `seq` goes to FATAL, no response is given, `mm` and `res` keep their values, and the next step is the
fault `halted`. That FATAL is a step after the failed call, and the fault of every later step, are the model's readings
(notes/assumptions/1.md, notes/assumptions/10.md). -/
def Obligations.FailedMapSetupHalts : Prop :=
  ∀ (s : State) (k : Nat) (q : List (Option MmAnswer)), s.quiet → k ≤ 2 →
    s.mmIn = List.replicate k (some .ok) ++ some .fail :: q →
    ∃ t u, exec .mmap s = .next t ∧ run (k + 2) t = .next u ∧ u.seq = .fatal ∧ u.mm = s.mm ∧ u.res = s.res ∧
      u.ctx = s.ctx ∧
      u.events = s.events ++ [.cmd .mmap] ++
        ([(.setWrite (writeTemplate s.params s.ctx)), (.setRead (readTemplate s.params s.ctx)),
          (.enable true s.params.mmTimeoutPeriod)].zipWith Event.mm (List.replicate k .ok ++ [.fail])) ∧
      step u = .fault .halted

/-- 60_exceptions.md R288 (the spec's decision D30): in FATAL, until hardware reset, every step is the fault `halted`,
no host command is taken and no port call is made. The fault `halted` is the model's reading (notes/assumptions/10.md).
-/
def Obligations.FatalIsAbsorbing : Prop :=
  ∀ s : State, s.seq = .fatal →
    (s.resetIn = false → step s = .fault .halted) ∧
    (∀ i : Instr, (i.isHost = true ∨ i.isWire = true) → exec i s = .fault .halted) ∧
    (∀ tw, exec (.mmSetWrite tw) s = .fault .halted) ∧ (∀ tr, exec (.mmSetRead tr) s = .fault .halted) ∧
    exec .mmEnable s = .fault .halted ∧ exec .busReset s = .fault .halted ∧
    (∀ l v, exec (.line l v) s = .fault .halted)

/-- 20_memory.md R64, R78, R79: with the window set up, a load becomes one frame of the read template and a store one
frame of the write template, with the offset as address and no write-enable; no register of the block changes. That an
access is a host request served between commands, and that the templates are held in State, are the model's choices
(notes/assumptions/16.md, notes/assumptions/17.md). What an access answered Fail does is not said here, and is the
model's choice (notes/assumptions/16.md). -/
def Obligations.WindowAccessesAreTheTemplatesFrames : Prop :=
  ∀ (s : State) (tw tr : Template) (a : Address) (n : Length) (v l : List Byte) (more : List HostReq)
    (q : List (Option Answer)),
    s.quiet → s.mm = true → s.primWrite = some tw → s.primRead = some tr →
    (s.inbox = .load a n :: more → s.btpIn = some (.ok l) :: q → l.length = n.toNat →
      step s = .next { s with
        inbox := more, btpIn := q, draws := s.draws + 1,
        events := s.events ++
          [.window { instr := tr.instr, ilines := tr.ilines,
                     addr := some { addr := a, alines := tr.alines, awidth := tr.awidth }, dummy := tr.dummy,
                     data := some (.recv tr.dlines n) } (.ok l)] }) ∧
    (s.inbox = .store a v :: more → s.btpIn = some (.ok []) :: q →
      step s = .next { s with
        inbox := more, btpIn := q, draws := s.draws + 1,
        events := s.events ++
          [.window { instr := tw.instr, ilines := tw.ilines,
                     addr := some { addr := a, alines := tw.alines, awidth := tw.awidth }, dummy := tw.dummy,
                     data := some (.send tw.dlines v) } (.ok [])] })

/-! ## Bus reset -/

/-- 47_bus_reset.md R269 (the spec's decision D33): BUSRESET is one `deinit`, the steps of `RESET_SEQ` in order, one
`reinit`; it always completes, gives the pins back and changes no register. That the primitive keeps its templates and
its timer through `deinit` and `reinit`, so that nothing but the history changes, is the model's choice
(notes/assumptions/17.md). What counts as a step is notes/assumptions/1.md. -/
def Obligations.BusResetPlaysTheSequence : Prop :=
  ∀ s : State, s.busFree → s.resetIn = false →
    ∃ t, exec .busReset s = .next t ∧ run (s.params.resetSeq.length + 3) t = .next { s with
      events := s.events ++ ([.busDeinit] ++ s.params.resetSeq.map (fun p => .line p.1 p.2) ++ [.busReinit]) }

/-- 10_state.md R29, 30_encoding.md R107: a line step while the sequencer owns the pins is one event and nothing else;
while the primitive owns them it is refused (93_implementation_defined.md U21). The refusal is the model's reading of
U21 (notes/assumptions/21.md). -/
def Obligations.LineNeedsThePins : Prop :=
  ∀ (s : State) (l : SignalLine) (v : Bool), s.seq ≠ .fatal →
    (s.pinOwner = .seq → exec (.line l v) s = .next { s with events := s.events ++ [.line l v] }) ∧
    (s.pinOwner = .btp → exec (.line l v) s = .refused .pinsNotHeld)

/-- 10_state.md R29, 70_reset_and_hazards.md R324: no `Btp` or `BtpMm` call is made while the sequencer owns the pins:
not by a wire command or a memory-map call, not by the second frame of a pair, not by the cleanup of `reProvision`, and
not for a window access. Such a call is refused (93_implementation_defined.md U21). The refusal is the model's reading
of U21 (notes/assumptions/21.md); the steps in waiting and the host's window requests are the model's form
(notes/assumptions/1.md, notes/assumptions/16.md). -/
def Obligations.NoBusCallWhilePinsAreHeld : Prop :=
  ∀ s : State, s.seq ≠ .fatal → s.pinOwner = .seq →
    (∀ i : Instr, (i.isWire = true ∨ (∃ tw, i = .mmSetWrite tw) ∨ (∃ tr, i = .mmSetRead tr) ∨ i = .mmEnable) →
      exec i s = .refused .pinsHeld) ∧
    (∀ (m : Micro) (rest : List Micro), s.resetIn = false → s.agenda = m :: rest →
      ((∃ i, m = .second i ∧ i.isWire = true) ∨ (m = .exitWindow ∧ s.privWin = true) ∨ m = .exitWrite ∨
        m = .disableWrite) →
      step s = .refused .pinsHeld) ∧
    (∀ (tw tr : Template) (more : List HostReq), s.resetIn = false → s.agenda = [] → s.mm = true →
      s.primWrite = some tw → s.primRead = some tr →
      (∃ a n, s.inbox = .load a n :: more) ∨ (∃ a v, s.inbox = .store a v :: more) →
      step s = .refused .pinsHeld)

/-! ## Bring-up -/

/-- 43_bringup.md R203: ENABLE_WRITE clears the flags and asserts write-enable under `CTX_DEFAULT`; a Fail of either is
ERROR and Transport, the second frame is not issued when the first failed; else PROGRAM_NONVOLATILE is next. The agenda
and what counts as a step, `res` and the response after a failed call among them (00_scope.md R5, 60_exceptions.md
R286), are the model's form (notes/assumptions/1.md). -/
def Obligations.EnableWriteState : Prop :=
  ∀ (s : State) (cfg : Record) (w : Nat) (dtr : Bool) (rest : List Micro) (q : List (Option Answer)),
    s.cmd = some (.init cfg w dtr) → s.seq = .reset → s.ctx = ctxDefault s.params → s.pinOwner = .btp →
    s.resetIn = false →
    s.agenda = .advance :: .op .clfsr :: .op .wren :: .advance :: rest →
    (s.btpIn = some (.ok []) :: some (.ok []) :: q →
      run 3 s = .next { s with
        seq := .enableWrite, agenda := .advance :: rest, btpIn := q, draws := s.draws + 2,
        events := s.events ++ [sent (bareFrame s.params.op.clfsr (ctxDefault s.params)) [],
                               sent (bareFrame s.params.op.wren (ctxDefault s.params)) []] } ∧
      run 4 s = .next { s with
        seq := .programNonvolatile, agenda := rest, btpIn := q, draws := s.draws + 2,
        events := s.events ++ [sent (bareFrame s.params.op.clfsr (ctxDefault s.params)) [],
                               sent (bareFrame s.params.op.wren (ctxDefault s.params)) []] }) ∧
    (s.btpIn = some .fail :: q →
      run 5 s = .next { s.ended .transport q 1
                          [.btp (bareFrame s.params.op.clfsr (ctxDefault s.params)) .fail, .rsp .transport []]
                        with seq := .error }) ∧
    (s.btpIn = some (.ok []) :: some .fail :: q →
      run 6 s = .next { s.ended .transport q 2 [sent (bareFrame s.params.op.clfsr (ctxDefault s.params)) [],
                          .btp (bareFrame s.params.op.wren (ctxDefault s.params)) .fail, .rsp .transport []]
                        with seq := .error })

/-- 43_bringup.md R206: SELECT_MODE commits the derived context, all eight fields in one step, with no port call, and
cannot fail; then VERIFY_STATUS is next. That the derivation is a step of its own before the commit, so that the first
clause and the counts of steps are as they are, and that its value stands in `ret` meanwhile and after, is the model's
choice (notes/assumptions/1.md, notes/assumptions/15.md). -/
def Obligations.SelectModeCommitsTheContext : Prop :=
  ∀ (s : State) (cfg : Record) (w : Nat) (dtr : Bool) (c : Ctx) (rest : List Micro),
    s.seq = .programVolatile → s.resetIn = false → deriveCtx s.params w dtr cfg = some c →
    s.agenda = .advance :: .op (.derive w dtr cfg) :: .commitCtx :: .advance :: rest →
    run 2 s = .next { s with seq := .selectMode, agenda := .commitCtx :: .advance :: rest, ret := .ctx c } ∧
    run 3 s = .next { s with seq := .selectMode, agenda := .advance :: rest, ret := .ctx c, ctx := c } ∧
    run 4 s = .next { s with seq := .verifyStatus, agenda := rest, ret := .ctx c, ctx := c }

/-- 43_bringup.md R207 (the spec's decision D27): the ready test of VERIFY_STATUS looks at bit 7 of the byte just read:
not ready is ERROR and Verification, ready goes on. That the test is a step of its own, with the byte in `rx`, is the
model's form (notes/assumptions/1.md, notes/assumptions/26.md). -/
def Obligations.VerifyStatusNeedsReady : Prop :=
  ∀ (s : State) (cfg : Record) (w : Nat) (dtr : Bool) (b : Byte) (rest : List Micro),
    s.cmd = some (.init cfg w dtr) → s.seq = .verifyStatus → s.resetIn = false → s.rx = [b] →
    s.agenda = .checkReady :: rest →
    (notReady s.params b →
      run 4 s = .next { s.ended .verification s.btpIn 0 [.rsp .verification []] with seq := .error }) ∧
    (isReady s.params b → step s = .next { s with agenda := rest })

/-- 43_bringup.md R208, R209 (the spec's decision D42), 44_reprovision.md R228 (its decision D34): a read-back issues
one frame for every sub-register it covers, under the standing context, and then compares every byte. In `initialize`
(every sub-register below `REG_BLOCK_LEN`, against the shadow) a mismatch is ERROR and Verification; in `reProvision`
(without the indices `skip`, against the image wanted) it makes Verification the first error and goes to the cleanup; in
both, with exactly the frames of the read-back. That a `REG_BLOCK_LEN` other than nine is taken so is the model's choice
(notes/assumptions/32.md). The steps in waiting and the temporaries `rx`, `blk` and `err` are the model's form
(notes/assumptions/1.md, notes/assumptions/26.md). -/
def Obligations.ReadBackIsComparedByteByByte : Prop :=
  ∀ (s : State) (img : Image) (sp : ConfigSpace) (op : Byte) (e : Expected) (rest : List Micro)
    (q : List (Option Answer)),
    s.busFree → s.resetIn = false →
    (sp, op, e) ∈ [(ConfigSpace.nvcr, s.params.op.rdnvcr, Expected.nvShadow), (.vcr, s.params.op.rdvcr, .vShadow)] →
    img.length = s.params.regBlockLen →
    (∀ cfg w dtr, s.cmd = some (.init cfg w dtr) →
      s.agenda = readBlock s.params sp [] ++ .verify e :: rest → s.btpIn = byteAnswers img ++ q →
      ∃ n, run n s = .next
        (if (if e = .nvShadow then s.nvShadow else s.vShadow) = img then
          { s with agenda := rest, rx := (img.getLast?.map (fun b => [b])).getD s.rx, blk := img, btpIn := q,
                   draws := s.draws + s.params.regBlockLen, events := s.events ++ blockReadEvents s.ctx op img [] }
        else
          { s.ended .verification q s.params.regBlockLen
              (blockReadEvents s.ctx op img [] ++ [.rsp .verification []]) with
            seq := .error })) ∧
    (∀ (want : Image) (skip : List SubregIndex), s.cmd = some .reprov → s.err = none →
      s.agenda = readBlock s.params sp skip ++ .verify (.bytes (imageBytes want skip)) :: rest →
      s.btpIn = byteAnswers (imageBytes img skip) ++ q →
      ∃ n, run n s = .next
        { s with
          rx := ((imageBytes img skip).getLast?.map (fun b => [b])).getD s.rx, blk := imageBytes img skip,
          btpIn := q, draws := s.draws + (covered s.params skip).length,
          events := s.events ++ blockReadEvents s.ctx op img skip,
          err := if imageBytes img skip = imageBytes want skip then none else some .verification,
          agenda := if imageBytes img skip = imageBytes want skip then rest else cleanupProgram })

/-- 43_bringup.md R210, R212, R213: with every frame answered Ok, a ready status byte and read-backs that equal what was
written, `initialize` reaches READY with exactly the frames of the contract in its order: the bus reset, two frames,
both blocks written under `CTX_DEFAULT`, then, under the derived context, the status write and read and both blocks read
back (59 frames by default). The final state is given whole: that the primitive's templates and timer are in it as
before, through the bus reset of RESET, is the model's choice (notes/assumptions/17.md), and so is the meaning of a
`REG_BLOCK_LEN` other than nine (notes/assumptions/32.md). What counts as a step is notes/assumptions/1.md. -/
def Obligations.BringupReachesReady : Prop :=
  ∀ (s : State) (cfg : Record) (w : Nat) (dtr : Bool) (c : Ctx) (st : Byte) (q : List (Option Answer)),
    s.quiet → deriveCtx s.params w dtr cfg = some c → isReady s.params st →
    s.btpIn = okAnswers (4 + 4 * s.params.regBlockLen) ++ byteAnswers [st] ++ byteAnswers (nvImage s.params cfg) ++
      byteAnswers (vImage s.params cfg) ++ q →
    ∃ t n, exec (.init cfg w dtr) s = .next t ∧ run n t = .next
      { s.ended .ok q (5 + 6 * s.params.regBlockLen)
        ([.cmd (.init cfg w dtr)] ++ busResetEvents s.params ++
         [sent (bareFrame s.params.op.clfsr (ctxDefault s.params)) [],
          sent (bareFrame s.params.op.wren (ctxDefault s.params)) []] ++
         blockWriteEvents s.params (ctxDefault s.params) s.params.op.wrnvcr (nvImage s.params cfg) [] ++
         blockWriteEvents s.params (ctxDefault s.params) s.params.op.wrvcr (vImage s.params cfg) [] ++
         statusEvents s.params c s.params.statusCleared st ++
         blockReadEvents c s.params.op.rdnvcr (nvImage s.params cfg) [] ++
         blockReadEvents c s.params.op.rdvcr (vImage s.params cfg) [] ++ [.rsp .ok []]) with
        seq := .ready, ctx := c, nvShadow := nvImage s.params cfg, vShadow := vImage s.params cfg, mm := false }

/-! ## Re-provisioning -/

/-- 44_reprovision.md R231 (its order is the spec's construction, D34 to D38; that `DEFAULT_CFG` selects the interface
of `CTX_DEFAULT` is the model's choice, notes/assumptions/30.md): with every frame answered Ok, read-backs that equal
the defaults and the two block-protect confirmations, `reProvision` ends with Ok after its frames (64 with the default
`REG_BLOCK_LEN` and `MAINT_SUBREG`; another length is notes/assumptions/32.md), those up to the volatile block write
under the entry context and the others under `CTX_DEFAULT`; `seq` and the shadows keep their values. The final state is
given whole. What counts as a step is notes/assumptions/1.md. -/
def Obligations.ReprovisioningSucceeds : Prop :=
  ∀ (s : State) (s1 s2 : Byte) (q : List (Option Answer)),
    s.quiet → s.params.reprovBulkVerify = .skip →
    s1 &&& s.params.bpMask = s.params.bpMask → s2 &&& s.params.bpMask = 0 →
    s.btpIn = okAnswers (4 + 2 * s.params.regBlockLen + 2 * (covered s.params (maintSkip s.params)).length) ++
      byteAnswers (imageBytes (nvImage s.params s.params.defaultCfg) []) ++
      byteAnswers (imageBytes (vImage s.params s.params.defaultCfg) (maintSkip s.params)) ++
      (okAnswers 2 ++ byteAnswers [s1]) ++ (okAnswers 2 ++ byteAnswers [s2]) ++ okAnswers 3 ++ q →
    ∃ t n, exec .reprov s = .next t ∧ run n t = .next
      { s.ended .ok q (13 + 3 * s.params.regBlockLen + 3 * (covered s.params (maintSkip s.params)).length)
        ([.cmd .reprov, sent (bareFrame s.params.op.clfsr s.ctx) [], sent (bareFrame s.params.op.wren s.ctx) []] ++
         subregWriteEvents s.params s.ctx s.params.op.wrvcr s.params.maintSubreg s.params.maintKey ++
         blockWriteEvents s.params s.ctx s.params.op.wrnvcr (nvImage s.params s.params.defaultCfg) [] ++
         blockWriteEvents s.params s.ctx s.params.op.wrvcr (vImage s.params s.params.defaultCfg)
           (maintSkip s.params) ++
         blockReadEvents (ctxDefault s.params) s.params.op.rdnvcr (nvImage s.params s.params.defaultCfg) [] ++
         blockReadEvents (ctxDefault s.params) s.params.op.rdvcr (vImage s.params s.params.defaultCfg)
           (maintSkip s.params) ++
         statusEvents s.params (ctxDefault s.params) s.params.bpMask s1 ++
         statusEvents s.params (ctxDefault s.params) 0 s2 ++
         subregWriteEvents s.params (ctxDefault s.params) s.params.op.wrvcr s.params.maintSubreg s.params.maintExit ++
         [sent (bareFrame s.params.op.wrdi (ctxDefault s.params)) [], .rsp .ok []]) with
        ctx := ctxDefault s.params, privWin := false }

/-- 44_reprovision.md R229 (the spec's decision D38): from the start of the cleanup the window is left and WRDI is
issued whatever the three frames answer; the exit write is issued only after an Ok of its WREN; the result is the error
the body left, else Transport if a cleanup frame failed, else Ok. The steps in waiting and the temporary `err` are the
model's form (notes/assumptions/1.md, notes/assumptions/26.md). -/
def Obligations.CleanupAlwaysRuns : Prop :=
  ∀ (s : State) (a1 a2 a3 : Answer) (q : List (Option Answer)),
    s.cmd = some .reprov → s.agenda = cleanupProgram → s.busFree → s.resetIn = false →
    a1 ∈ [Answer.ok [], .fail] → a2 ∈ [Answer.ok [], .fail] → a3 ∈ [Answer.ok [], .fail] →
    (s.privWin = true → a1 = .ok [] → s.btpIn = some a1 :: some a2 :: some a3 :: q →
      ∃ n r, run n s = .next { s.ended r q 3
          [.btp (bareFrame s.params.op.wren s.ctx) a1,
           .btp (subregWriteFrame s.params.op.wrvcr s.ctx s.params.maintSubreg s.params.maintExit) a2,
           .btp (bareFrame s.params.op.wrdi s.ctx) a3, .rsp r []] with privWin := false } ∧
        (∀ k, s.err = some k → r = k.toResult) ∧
        (s.err = none → r = if a2 = .fail ∨ a3 = .fail then .transport else .ok)) ∧
    (s.privWin = true → a1 = .fail → s.btpIn = some a1 :: some a3 :: q →
      ∃ n r, run n s = .next { s.ended r q 2
          [.btp (bareFrame s.params.op.wren s.ctx) a1, .btp (bareFrame s.params.op.wrdi s.ctx) a3, .rsp r []] with
            privWin := false } ∧
        (∀ k, s.err = some k → r = k.toResult) ∧ (s.err = none → r = .transport)) ∧
    (s.privWin = false → s.btpIn = some a3 :: q →
      ∃ n r, run n s = .next (s.ended r q 1 [.btp (bareFrame s.params.op.wrdi s.ctx) a3, .rsp r []]) ∧
        (∀ k, s.err = some k → r = k.toResult) ∧
        (s.err = none → r = if a3 = .fail then .transport else .ok))

/-- 44_reprovision.md R225, R226 (the spec's decision D37): the block-protect tests look at the `BP_MASK` bits of the
status byte only (bits 6:0, so not at ready); a byte that does not show the wanted bits makes Verification the first
error and goes to the cleanup. That the test is a step of its own, with the byte in `rx` and the error in `err`, is the
model's form (notes/assumptions/1.md, notes/assumptions/26.md). -/
def Obligations.ProtectTestsIgnoreReady : Prop :=
  ∀ (s : State) (b want : Byte) (rest : List Micro),
    s.cmd = some .reprov → s.err = none → s.resetIn = false → s.seq ≠ .fatal → s.rx = [b] →
    s.agenda = .checkProtect want :: rest →
    (b &&& s.params.bpMask = want → step s = .next { s with agenda := rest }) ∧
    (b &&& s.params.bpMask ≠ want → step s = .next { s with agenda := cleanupProgram, err := some .verification })

/-! ## Steps -/

/-- 60_exceptions.md R300, 00_scope.md R5: when an idle block's next request is a command word that decodes, the step is
the meaning of that command with the word taken off the port; when a running command's next step is an instruction, the
step is the meaning of that instruction with it taken off the agenda. The queue of requests and the agenda are the
model's (notes/assumptions/12.md, notes/assumptions/1.md). -/
def Obligations.StepRunsTheDecodedInstruction : Prop :=
  ∀ (s : State) (i : Instr), s.resetIn = false → s.seq ≠ .fatal →
    (∀ word more, s.agenda = [] → s.inbox = .cmd word :: more → decode s.params (.command word) = .ok i →
      step s = exec i { s with inbox := more }) ∧
    (∀ rest, s.agenda = .op i :: rest → step s = exec i { s with agenda := rest })

/-- 10_state.md R40, 70_reset_and_hazards.md R310 (the spec's decision D29): hardware reset, asserted in any state,
FATAL and a running command included, sets the registers the rule gives a value to, makes no port call and leaves the
block waiting. That reset is an input bit that the step lets go, and that the host's requests and the history stay, is
the model's choice (notes/assumptions/11.md). -/
def Obligations.HardwareResetFromAnyState : Prop :=
  ∀ s : State, s.resetIn = true →
    ∃ t, step s = .next t ∧ t.seq = .uninit ∧
      t.ctx = { ilm := .one, alm := .one, dlm := .one, abw := .bits24, rop := .fast, wop := .std,
                dcd := s.params.defaultDataDummy, dcc := s.params.nonOctalCfgDummy } ∧
      t.res = .ok ∧ t.pinOwner = .btp ∧ t.mm = false ∧ t.privWin = false ∧
      t.busy = false ∧ t.resetIn = false ∧ t.events = s.events ∧ t.inbox = s.inbox ∧ t.params = s.params

/-- 60_exceptions.md R300, 93_implementation_defined.md U22: a host command that arrives while another runs is not
taken: its meaning is refused, and no step of the running command looks at the host's requests, so that it waits there
(the queue of requests is the model's form, notes/assumptions/12.md, notes/assumptions/22.md). The steps in waiting are
the model's form (notes/assumptions/1.md). -/
def Obligations.SecondCommandIsRefused : Prop :=
  ∀ s : State, s.seq ≠ .fatal → s.busy = true →
    (∀ i : Instr, i.isHost = true → exec i s = .refused .hostBusy) ∧
    (∀ t : State, s.resetIn = false → s.agenda ≠ [] → step s = .next t → t.inbox = s.inbox)

/-- 10_state.md R25, 43_bringup.md R201, R211, 46_memory_map.md R259, 60_exceptions.md R286, R288 (the spec's decisions
D26, D28, D30): in a step without hardware reset `seq` keeps its value, or goes to the next state of bring-up, or to
RESET, ERROR or FATAL, each by a step of its own. The step to RESET comes into waiting only with an `initialize` of a
supported width; the step to ERROR only with an `initialize` of an illegal width or when a running `initialize` fails,
and what is left after it is a result that is not Ok and the response; the step to FATAL only when a memory-map call was
answered Fail. From which value a move starts is not said here. The steps in waiting are the model's form
(notes/assumptions/1.md), and so is the step to FATAL after the failed call (notes/assumptions/10.md). -/
def Obligations.SeqMovesInOrder : Prop :=
  ∀ s t : State, s.resetIn = false → step s = .next t →
    (t.seq = s.seq ∨
      (t.seq = s.seq.succ ∧ s.agenda.head? = some .advance) ∨
      (t.seq = .reset ∧ s.agenda.head? = some .enterReset) ∨
      (t.seq = .error ∧ s.agenda.head? = some .enterError) ∨
      (t.seq = .fatal ∧ s.agenda.head? = some .enterFatal)) ∧
    (.enterReset ∈ t.agenda → .enterReset ∈ s.agenda ∨
      ∃ cfg w dtr, t.events = s.events ++ [.cmd (.init cfg w dtr)] ∧ w ∈ [1, 2, 4, 8] ∧ w ∈ s.params.widths) ∧
    (.enterError ∈ t.agenda → .enterError ∈ s.agenda ∨ isInit s.cmd = true ∨
      ∃ cfg w dtr, t.events = s.events ++ [.cmd (.init cfg w dtr)] ∧ (w ∉ [1, 2, 4, 8] ∨ w ∉ s.params.widths)) ∧
    (.enterFatal ∈ t.agenda → .enterFatal ∈ s.agenda ∨ ∃ c, t.events = s.events ++ [.mm c .fail]) ∧
    (s.Inv → s.agenda.head? = some .enterError → ∃ k d, k ≠ .ok ∧ t.agenda = [.setRes k, .giveRsp d])

/-- 10_state.md R20 to R32 (with the spec's decisions D23, D28), 60_exceptions.md R286: in a step without hardware reset
each of the nine registers changes only at the step whose rule writes it: the Mode Context only as a whole, to
`CTX_DEFAULT` or to the derived context; each shadow only to the image just encoded; `pollStart` only to the tick just
read; `res` only where a result is written, after which the response is the one step left. The parameters never change
(00_scope.md R6, R7). The agenda, and that a derived or encoded value stands in `ret` and a tick in `now` until the step
that takes it, are the model's form (notes/assumptions/1.md, notes/assumptions/15.md, notes/assumptions/26.md). -/
def Obligations.RegistersChangeOnlyAtTheirSteps : Prop :=
  ∀ s t : State, s.resetIn = false → step s = .next t →
    (t.ctx = s.ctx ∨ (s.agenda.head? = some .defaultCtx ∧ t.ctx = ctxDefault s.params) ∨
      (s.agenda.head? = some .commitCtx ∧ s.ret = .ctx t.ctx)) ∧
    (t.seq = s.seq ∨ s.agenda.head? = some .advance ∨ s.agenda.head? = some .enterReset ∨
      s.agenda.head? = some .enterError ∨ s.agenda.head? = some .enterFatal) ∧
    (t.res = s.res ∨ s.agenda.head? = some (.setRes t.res) ∨
      (s.agenda.head? = some .conclude ∧ t.res = s.concluded)) ∧
    (s.Inv → t.res ≠ s.res → ∃ d, t.agenda = [.giveRsp d]) ∧
    (t.nvShadow = s.nvShadow ∨ (s.agenda.head? = some .storeNv ∧ s.ret = .image t.nvShadow)) ∧
    (t.vShadow = s.vShadow ∨ (s.agenda.head? = some .storeV ∧ s.ret = .image t.vShadow)) ∧
    (t.pollStart = s.pollStart ∨ (s.agenda.head? = some .startTimer ∧ t.pollStart = s.now)) ∧
    (t.mm = s.mm ∨ s.agenda.head? = some .clearMm ∨ s.agenda.head? = some .setMm) ∧
    (t.pinOwner = s.pinOwner ∨ s.agenda.head? = some .takePins ∨ s.agenda.head? = some .givePins) ∧
    (t.privWin = s.privWin ∨ s.agenda.head? = some .openWindow ∨ s.agenda.head? = some .closeWindow) ∧
    t.params = s.params

/-! ## Invariants and safety -/

/-- 10_state.md R40, 70_reset_and_hazards.md R310 (the spec's decision D29): the invariant holds after reset. The
registers R40 leaves without a value meet it by the values and the lengths the model gives them (notes/assumptions/5.md,
notes/assumptions/32.md); that no step, template or returned value is in waiting is the model's form
(notes/assumptions/1.md, notes/assumptions/15.md, notes/assumptions/17.md). -/
def Obligations.InvariantHoldsAtReset : Prop := State.reset.Inv

/-- 10_state.md R20, R22, R25 to R30, R32, 41_mode_context.md R153, 46_memory_map.md R258, 47_bus_reset.md R268,
60_exceptions.md R286, R288, R294, R300: every step keeps the invariant: a derived context, the pins and the privileged
window given back before a command ends, `seq` at rest when it ends, `mm` only with both templates, tick values of
TICK_W bits, shadows of REG_BLOCK_LEN bytes (notes/assumptions/32.md), steps in waiting exactly while a command runs.
That with `mm` set the templates stand through a failed call and a bus reset is the model's choice
(notes/assumptions/17.md). The steps in waiting, and that a derived or encoded value stands in `ret` and a tick in
`now`, are the model's form (notes/assumptions/1.md, notes/assumptions/15.md, notes/assumptions/26.md); the values that
hardware reset gives the shadows and `pollStart` are notes/assumptions/5.md, and what a step with a window access or
with hardware reset leaves is notes/assumptions/11.md, notes/assumptions/16.md. -/
def Obligations.StepKeepsTheInvariant : Prop :=
  ∀ s t : State, s.Inv → step s = .next t → t.Inv

/-- 10_state.md R25, R29, R32, 47_bus_reset.md R268, 60_exceptions.md R300: between two host commands the primitive owns
the pins, the privileged window is closed and `seq` rests. The steps in waiting, empty in an idle block, are the model's
form (notes/assumptions/1.md). -/
def Obligations.IdleBlockIsClosed : Prop :=
  ∀ s : State, s.Inv → s.cmd = none → s.pinOwner = .btp ∧ s.privWin = false ∧ s.seq.resting = true ∧ s.busy = false

/-- 60_exceptions.md R280, R285, R288, R300, 20_memory.md R64, 30_encoding.md R99, 44_reprovision.md R230: in every
state that satisfies the invariant, outside FATAL, a step gives a next state, whatever the environment answers, if the
host's next request has a meaning and the bulk-verify step, where it is next, has the one policy R230 defines. That a
step with a window access answered Fail gives a next state too is the model's choice (notes/assumptions/16.md), and that
a call not yet answered is a step is another (notes/assumptions/2.md). The steps in waiting are the model's form
(notes/assumptions/1.md); the stops shut out by the hypotheses are notes/assumptions/10.md, notes/assumptions/13.md,
notes/assumptions/23.md. -/
def Obligations.NoStepIsRefused : Prop :=
  ∀ s : State, s.Inv → s.seq ≠ .fatal →
    (s.params.reprovBulkVerify = .skip ∨ s.agenda.head? ≠ some .bulkVerify) →
    (s.agenda = [] → ∀ r, s.inbox.head? = some r → meaningful s r) →
    ∃ t, step s = .next t

/-- 20_memory.md R74, 70_reset_and_hazards.md R314: every step keeps the write-enable pair law: in the event history
every write-type frame follows immediately on a WREN frame answered Ok. That the opcodes are pairwise distinct, so that
a frame tells its command, is 30_encoding.md R104; what is in waiting is the model's form (notes/assumptions/1.md,
notes/assumptions/9.md). A window store is no frame of the sequencer and is not counted (R79, the spec's decision D43).
-/
def Obligations.StepKeepsWriteEnablePairs : Prop :=
  ∀ s t : State, s.WriteEnabled → step s = .next t → t.WriteEnabled

/-- 20_memory.md R74, 70_reset_and_hazards.md R310, 30_encoding.md R98, R104: the write-enable pair law holds after
reset, because the history and the agenda are empty and the default opcodes and the default command codes are pairwise
distinct. That the opcodes are rests on their PRESUMED values (notes/assumptions/6.md; R104 says "the defaults are"),
the codes are the spec's decision D24; the history and the agenda, empty at reset, are the model's form
(notes/assumptions/1.md, notes/assumptions/19.md). -/
def Obligations.WriteEnablePairsHoldAtReset : Prop := State.reset.WriteEnabled

/-- 60_exceptions.md R286 (5), R297, R300, 30_encoding.md R100: a step that gives a response gives the result that
stands in `res`, leaves it there and leaves the block idle, ready for every host command again; data goes with Ok only.
That the step before has written `res` is a clause of the invariant over the steps in waiting (notes/assumptions/1.md).
-/
def Obligations.ResponseLeavesTheBlockIdle : Prop :=
  ∀ (s t : State) (evs : List Event) (r : Result) (d : List Byte),
    s.Inv → s.resetIn = false → step s = .next t → t.events = s.events ++ evs ++ [.rsp r d] →
    t.busy = false ∧ t.cmd = none ∧ r = s.res ∧ t.res = r ∧ (d ≠ [] → r = .ok)

/-! ## Encoding -/

/-- 30_encoding.md R91, R98, R99, R103, R104, R107, R109: decoding the encoding of a well-formed instruction gives it
back, with every operand, under every Mode Context and every parameters whose opcodes and command codes are pairwise
distinct. Which sub-register indices are well-formed, and that an index has up to 32 bits, is the model's choice
(notes/assumptions/24.md, notes/assumptions/31.md). A WRITE word with another number of bytes is no encoding
(notes/assumptions/13.md). -/
def Obligations.DecodeOfEncode : Prop :=
  ∀ (P : Params) (c : Ctx) (i : Instr) (code : Code), P.Distinct → i.wf P = true → encode P c i = some code →
    decode P code = .ok i

/-- 30_encoding.md R98, R99, R106: each command code asks for its row, with the row's operand fields and no other; every
other code is the reserved row; what a command word decodes to is a well-formed host command. A WRITE whose byte list
has not `length` bytes, and no other command word, is refused (notes/assumptions/13.md). The codes and the reserved row
are the spec's decisions D24 and D25. -/
def Obligations.CommandWordsDecodeToHostCommands : Prop :=
  ∀ (P : Params) (w : CmdWord), P.Distinct →
    (w.code = P.cmd.init → decode P (.command w) = .ok (.init w.cfg w.w.toNat w.dtr)) ∧
    (w.code = P.cmd.reprov → decode P (.command w) = .ok .reprov) ∧
    (w.code = P.cmd.read → decode P (.command w) = .ok (.read w.address w.length)) ∧
    (w.code = P.cmd.write → w.wdata.length = w.length.toNat →
      decode P (.command w) = .ok (.write w.address w.wdata)) ∧
    (w.code = P.cmd.eraseChip → decode P (.command w) = .ok .eraseChip) ∧
    (w.code = P.cmd.readId → decode P (.command w) = .ok .readId) ∧
    (w.code = P.cmd.readStatus → decode P (.command w) = .ok .readStatus) ∧
    (w.code = P.cmd.readFlags → decode P (.command w) = .ok .readFlags) ∧
    (w.code = P.cmd.clearFlags → decode P (.command w) = .ok .clearFlags) ∧
    (w.code = P.cmd.poll → decode P (.command w) = .ok (.poll (w.timeout % 2 ^ P.tickW))) ∧
    (w.code = P.cmd.mmap → decode P (.command w) = .ok .mmap) ∧
    (w.code ∉ P.cmd.all → decode P (.command w) = .ok (.reservedCmd w.code)) ∧
    (∀ e, decode P (.command w) = .error e ↔
      (e = .wrongLength ∧ w.code = P.cmd.write ∧ w.wdata.length ≠ w.length.toNat)) ∧
    (∀ i, decode P (.command w) = .ok i → i.wf P = true ∧ i.isHost = true)

/-- 30_encoding.md R98, R104: words written out from the tables decode to their instructions under the default
parameters. The opcode values are PRESUMED, general knowledge, not the source's (notes/assumptions/6.md). The command
codes and the reserved row are the spec's decisions D24 and D25. -/
def Obligations.WrittenWordsDecode : Prop :=
  decode Config.params (.wire { instr := 0x06, ilines := .four, addr := none, dummy := 0, data := none }) =
    .ok .wren ∧
  decode Config.params
    (.wire { instr := 0xB1, ilines := .one, addr := some { addr := 1, alines := .one, awidth := .bits24 },
             dummy := 0, data := some (.send .one [0x10]) }) = .ok (.wrnvcr 1 0x10) ∧
  decode Config.params
    (.wire { instr := 0x9D, ilines := .eight,
             addr := some { addr := 0x1000, alines := .eight, awidth := .bits32 },
             dummy := 16, data := some (.recv .eight 4) }) = .ok (.readOctalDtr 0x1000 4) ∧
  decode Config.params (.command { CmdWord.ofCode 0x02 with address := 0x10, length := 2 }) = .ok (.read 0x10 2) ∧
  decode Config.params (.command (CmdWord.ofCode 0x0B)) = .ok (.reservedCmd 0x0B)
end

