-- ==== Sys2Proof/Laws/State.lean ====
section
/-! SUPPORT. One lemma per field of State per named update: what each update leaves in each field. -/

namespace Sys2Proof.Machine.State

open Sys2Proof

variable (s : State)

@[simp] theorem emit_ctx (e : Event) : (s.emit e).ctx = s.ctx := rfl
@[simp] theorem emit_seq (e : Event) : (s.emit e).seq = s.seq := rfl
@[simp] theorem emit_res (e : Event) : (s.emit e).res = s.res := rfl
@[simp] theorem emit_nvShadow (e : Event) : (s.emit e).nvShadow = s.nvShadow := rfl
@[simp] theorem emit_vShadow (e : Event) : (s.emit e).vShadow = s.vShadow := rfl
@[simp] theorem emit_pollStart (e : Event) : (s.emit e).pollStart = s.pollStart := rfl
@[simp] theorem emit_pinOwner (e : Event) : (s.emit e).pinOwner = s.pinOwner := rfl
@[simp] theorem emit_mm (e : Event) : (s.emit e).mm = s.mm := rfl
@[simp] theorem emit_privWin (e : Event) : (s.emit e).privWin = s.privWin := rfl
@[simp] theorem emit_cmd (e : Event) : (s.emit e).cmd = s.cmd := rfl
@[simp] theorem emit_agenda (e : Event) : (s.emit e).agenda = s.agenda := rfl
@[simp] theorem emit_rx (e : Event) : (s.emit e).rx = s.rx := rfl
@[simp] theorem emit_blk (e : Event) : (s.emit e).blk = s.blk := rfl
@[simp] theorem emit_err (e : Event) : (s.emit e).err = s.err := rfl
@[simp] theorem emit_now (e : Event) : (s.emit e).now = s.now := rfl
@[simp] theorem emit_ret (e : Event) : (s.emit e).ret = s.ret := rfl
@[simp] theorem emit_primWrite (e : Event) : (s.emit e).primWrite = s.primWrite := rfl
@[simp] theorem emit_primRead (e : Event) : (s.emit e).primRead = s.primRead := rfl
@[simp] theorem emit_primTimer (e : Event) : (s.emit e).primTimer = s.primTimer := rfl
@[simp] theorem emit_params (e : Event) : (s.emit e).params = s.params := rfl
@[simp] theorem emit_resetIn (e : Event) : (s.emit e).resetIn = s.resetIn := rfl
@[simp] theorem emit_inbox (e : Event) : (s.emit e).inbox = s.inbox := rfl
@[simp] theorem emit_btpIn (e : Event) : (s.emit e).btpIn = s.btpIn := rfl
@[simp] theorem emit_mmIn (e : Event) : (s.emit e).mmIn = s.mmIn := rfl
@[simp] theorem emit_tickIn (e : Event) : (s.emit e).tickIn = s.tickIn := rfl
@[simp] theorem emit_draws (e : Event) : (s.emit e).draws = s.draws := rfl
@[simp] theorem emit_events (e : Event) : (s.emit e).events = s.events ++ [e] := rfl

@[simp] theorem push_ctx (ms : List Micro) : (s.push ms).ctx = s.ctx := rfl
@[simp] theorem push_seq (ms : List Micro) : (s.push ms).seq = s.seq := rfl
@[simp] theorem push_res (ms : List Micro) : (s.push ms).res = s.res := rfl
@[simp] theorem push_nvShadow (ms : List Micro) : (s.push ms).nvShadow = s.nvShadow := rfl
@[simp] theorem push_vShadow (ms : List Micro) : (s.push ms).vShadow = s.vShadow := rfl
@[simp] theorem push_pollStart (ms : List Micro) : (s.push ms).pollStart = s.pollStart := rfl
@[simp] theorem push_pinOwner (ms : List Micro) : (s.push ms).pinOwner = s.pinOwner := rfl
@[simp] theorem push_mm (ms : List Micro) : (s.push ms).mm = s.mm := rfl
@[simp] theorem push_privWin (ms : List Micro) : (s.push ms).privWin = s.privWin := rfl
@[simp] theorem push_cmd (ms : List Micro) : (s.push ms).cmd = s.cmd := rfl
@[simp] theorem push_agenda (ms : List Micro) : (s.push ms).agenda = ms ++ s.agenda := rfl
@[simp] theorem push_rx (ms : List Micro) : (s.push ms).rx = s.rx := rfl
@[simp] theorem push_blk (ms : List Micro) : (s.push ms).blk = s.blk := rfl
@[simp] theorem push_err (ms : List Micro) : (s.push ms).err = s.err := rfl
@[simp] theorem push_now (ms : List Micro) : (s.push ms).now = s.now := rfl
@[simp] theorem push_ret (ms : List Micro) : (s.push ms).ret = s.ret := rfl
@[simp] theorem push_primWrite (ms : List Micro) : (s.push ms).primWrite = s.primWrite := rfl
@[simp] theorem push_primRead (ms : List Micro) : (s.push ms).primRead = s.primRead := rfl
@[simp] theorem push_primTimer (ms : List Micro) : (s.push ms).primTimer = s.primTimer := rfl
@[simp] theorem push_params (ms : List Micro) : (s.push ms).params = s.params := rfl
@[simp] theorem push_resetIn (ms : List Micro) : (s.push ms).resetIn = s.resetIn := rfl
@[simp] theorem push_inbox (ms : List Micro) : (s.push ms).inbox = s.inbox := rfl
@[simp] theorem push_btpIn (ms : List Micro) : (s.push ms).btpIn = s.btpIn := rfl
@[simp] theorem push_mmIn (ms : List Micro) : (s.push ms).mmIn = s.mmIn := rfl
@[simp] theorem push_tickIn (ms : List Micro) : (s.push ms).tickIn = s.tickIn := rfl
@[simp] theorem push_draws (ms : List Micro) : (s.push ms).draws = s.draws := rfl
@[simp] theorem push_events (ms : List Micro) : (s.push ms).events = s.events := rfl

@[simp] theorem drewBtp_ctx : (s.drewBtp).ctx = s.ctx := rfl
@[simp] theorem drewBtp_seq : (s.drewBtp).seq = s.seq := rfl
@[simp] theorem drewBtp_res : (s.drewBtp).res = s.res := rfl
@[simp] theorem drewBtp_nvShadow : (s.drewBtp).nvShadow = s.nvShadow := rfl
@[simp] theorem drewBtp_vShadow : (s.drewBtp).vShadow = s.vShadow := rfl
@[simp] theorem drewBtp_pollStart : (s.drewBtp).pollStart = s.pollStart := rfl
@[simp] theorem drewBtp_pinOwner : (s.drewBtp).pinOwner = s.pinOwner := rfl
@[simp] theorem drewBtp_mm : (s.drewBtp).mm = s.mm := rfl
@[simp] theorem drewBtp_privWin : (s.drewBtp).privWin = s.privWin := rfl
@[simp] theorem drewBtp_cmd : (s.drewBtp).cmd = s.cmd := rfl
@[simp] theorem drewBtp_agenda : (s.drewBtp).agenda = s.agenda := rfl
@[simp] theorem drewBtp_rx : (s.drewBtp).rx = s.rx := rfl
@[simp] theorem drewBtp_blk : (s.drewBtp).blk = s.blk := rfl
@[simp] theorem drewBtp_err : (s.drewBtp).err = s.err := rfl
@[simp] theorem drewBtp_now : (s.drewBtp).now = s.now := rfl
@[simp] theorem drewBtp_ret : (s.drewBtp).ret = s.ret := rfl
@[simp] theorem drewBtp_primWrite : (s.drewBtp).primWrite = s.primWrite := rfl
@[simp] theorem drewBtp_primRead : (s.drewBtp).primRead = s.primRead := rfl
@[simp] theorem drewBtp_primTimer : (s.drewBtp).primTimer = s.primTimer := rfl
@[simp] theorem drewBtp_params : (s.drewBtp).params = s.params := rfl
@[simp] theorem drewBtp_resetIn : (s.drewBtp).resetIn = s.resetIn := rfl
@[simp] theorem drewBtp_inbox : (s.drewBtp).inbox = s.inbox := rfl
@[simp] theorem drewBtp_btpIn : (s.drewBtp).btpIn = s.btpIn.tail := rfl
@[simp] theorem drewBtp_mmIn : (s.drewBtp).mmIn = s.mmIn := rfl
@[simp] theorem drewBtp_tickIn : (s.drewBtp).tickIn = s.tickIn := rfl
@[simp] theorem drewBtp_draws : (s.drewBtp).draws = s.draws + 1 := rfl
@[simp] theorem drewBtp_events : (s.drewBtp).events = s.events := rfl

@[simp] theorem drewMm_ctx : (s.drewMm).ctx = s.ctx := rfl
@[simp] theorem drewMm_seq : (s.drewMm).seq = s.seq := rfl
@[simp] theorem drewMm_res : (s.drewMm).res = s.res := rfl
@[simp] theorem drewMm_nvShadow : (s.drewMm).nvShadow = s.nvShadow := rfl
@[simp] theorem drewMm_vShadow : (s.drewMm).vShadow = s.vShadow := rfl
@[simp] theorem drewMm_pollStart : (s.drewMm).pollStart = s.pollStart := rfl
@[simp] theorem drewMm_pinOwner : (s.drewMm).pinOwner = s.pinOwner := rfl
@[simp] theorem drewMm_mm : (s.drewMm).mm = s.mm := rfl
@[simp] theorem drewMm_privWin : (s.drewMm).privWin = s.privWin := rfl
@[simp] theorem drewMm_cmd : (s.drewMm).cmd = s.cmd := rfl
@[simp] theorem drewMm_agenda : (s.drewMm).agenda = s.agenda := rfl
@[simp] theorem drewMm_rx : (s.drewMm).rx = s.rx := rfl
@[simp] theorem drewMm_blk : (s.drewMm).blk = s.blk := rfl
@[simp] theorem drewMm_err : (s.drewMm).err = s.err := rfl
@[simp] theorem drewMm_now : (s.drewMm).now = s.now := rfl
@[simp] theorem drewMm_ret : (s.drewMm).ret = s.ret := rfl
@[simp] theorem drewMm_primWrite : (s.drewMm).primWrite = s.primWrite := rfl
@[simp] theorem drewMm_primRead : (s.drewMm).primRead = s.primRead := rfl
@[simp] theorem drewMm_primTimer : (s.drewMm).primTimer = s.primTimer := rfl
@[simp] theorem drewMm_params : (s.drewMm).params = s.params := rfl
@[simp] theorem drewMm_resetIn : (s.drewMm).resetIn = s.resetIn := rfl
@[simp] theorem drewMm_inbox : (s.drewMm).inbox = s.inbox := rfl
@[simp] theorem drewMm_btpIn : (s.drewMm).btpIn = s.btpIn := rfl
@[simp] theorem drewMm_mmIn : (s.drewMm).mmIn = s.mmIn.tail := rfl
@[simp] theorem drewMm_tickIn : (s.drewMm).tickIn = s.tickIn := rfl
@[simp] theorem drewMm_draws : (s.drewMm).draws = s.draws + 1 := rfl
@[simp] theorem drewMm_events : (s.drewMm).events = s.events := rfl

@[simp] theorem drewTick_ctx : (s.drewTick).ctx = s.ctx := rfl
@[simp] theorem drewTick_seq : (s.drewTick).seq = s.seq := rfl
@[simp] theorem drewTick_res : (s.drewTick).res = s.res := rfl
@[simp] theorem drewTick_nvShadow : (s.drewTick).nvShadow = s.nvShadow := rfl
@[simp] theorem drewTick_vShadow : (s.drewTick).vShadow = s.vShadow := rfl
@[simp] theorem drewTick_pollStart : (s.drewTick).pollStart = s.pollStart := rfl
@[simp] theorem drewTick_pinOwner : (s.drewTick).pinOwner = s.pinOwner := rfl
@[simp] theorem drewTick_mm : (s.drewTick).mm = s.mm := rfl
@[simp] theorem drewTick_privWin : (s.drewTick).privWin = s.privWin := rfl
@[simp] theorem drewTick_cmd : (s.drewTick).cmd = s.cmd := rfl
@[simp] theorem drewTick_agenda : (s.drewTick).agenda = s.agenda := rfl
@[simp] theorem drewTick_rx : (s.drewTick).rx = s.rx := rfl
@[simp] theorem drewTick_blk : (s.drewTick).blk = s.blk := rfl
@[simp] theorem drewTick_err : (s.drewTick).err = s.err := rfl
@[simp] theorem drewTick_now : (s.drewTick).now = s.now := rfl
@[simp] theorem drewTick_ret : (s.drewTick).ret = s.ret := rfl
@[simp] theorem drewTick_primWrite : (s.drewTick).primWrite = s.primWrite := rfl
@[simp] theorem drewTick_primRead : (s.drewTick).primRead = s.primRead := rfl
@[simp] theorem drewTick_primTimer : (s.drewTick).primTimer = s.primTimer := rfl
@[simp] theorem drewTick_params : (s.drewTick).params = s.params := rfl
@[simp] theorem drewTick_resetIn : (s.drewTick).resetIn = s.resetIn := rfl
@[simp] theorem drewTick_inbox : (s.drewTick).inbox = s.inbox := rfl
@[simp] theorem drewTick_btpIn : (s.drewTick).btpIn = s.btpIn := rfl
@[simp] theorem drewTick_mmIn : (s.drewTick).mmIn = s.mmIn := rfl
@[simp] theorem drewTick_tickIn : (s.drewTick).tickIn = s.tickIn.tail := rfl
@[simp] theorem drewTick_draws : (s.drewTick).draws = s.draws + 1 := rfl
@[simp] theorem drewTick_events : (s.drewTick).events = s.events := rfl

@[simp] theorem tickRead_ctx : (s.tickRead).ctx = s.ctx := rfl
@[simp] theorem tickRead_seq : (s.tickRead).seq = s.seq := rfl
@[simp] theorem tickRead_res : (s.tickRead).res = s.res := rfl
@[simp] theorem tickRead_nvShadow : (s.tickRead).nvShadow = s.nvShadow := rfl
@[simp] theorem tickRead_vShadow : (s.tickRead).vShadow = s.vShadow := rfl
@[simp] theorem tickRead_pollStart : (s.tickRead).pollStart = s.pollStart := rfl
@[simp] theorem tickRead_pinOwner : (s.tickRead).pinOwner = s.pinOwner := rfl
@[simp] theorem tickRead_mm : (s.tickRead).mm = s.mm := rfl
@[simp] theorem tickRead_privWin : (s.tickRead).privWin = s.privWin := rfl
@[simp] theorem tickRead_cmd : (s.tickRead).cmd = s.cmd := rfl
@[simp] theorem tickRead_agenda : (s.tickRead).agenda = s.agenda := rfl
@[simp] theorem tickRead_rx : (s.tickRead).rx = s.rx := rfl
@[simp] theorem tickRead_blk : (s.tickRead).blk = s.blk := rfl
@[simp] theorem tickRead_err : (s.tickRead).err = s.err := rfl
@[simp] theorem tickRead_now : (s.tickRead).now = s.tickAnswer := rfl
@[simp] theorem tickRead_ret : (s.tickRead).ret = s.ret := rfl
@[simp] theorem tickRead_primWrite : (s.tickRead).primWrite = s.primWrite := rfl
@[simp] theorem tickRead_primRead : (s.tickRead).primRead = s.primRead := rfl
@[simp] theorem tickRead_primTimer : (s.tickRead).primTimer = s.primTimer := rfl
@[simp] theorem tickRead_params : (s.tickRead).params = s.params := rfl
@[simp] theorem tickRead_resetIn : (s.tickRead).resetIn = s.resetIn := rfl
@[simp] theorem tickRead_inbox : (s.tickRead).inbox = s.inbox := rfl
@[simp] theorem tickRead_btpIn : (s.tickRead).btpIn = s.btpIn := rfl
@[simp] theorem tickRead_mmIn : (s.tickRead).mmIn = s.mmIn := rfl
@[simp] theorem tickRead_tickIn : (s.tickRead).tickIn = s.tickIn.tail := rfl
@[simp] theorem tickRead_draws : (s.tickRead).draws = s.draws + 1 := rfl
@[simp] theorem tickRead_events : (s.tickRead).events = s.events ++ [.tick s.tickAnswer] := rfl

@[simp] theorem halt_ctx : (s.halt).ctx = s.ctx := rfl
@[simp] theorem halt_seq : (s.halt).seq = .fatal := rfl
@[simp] theorem halt_res : (s.halt).res = s.res := rfl
@[simp] theorem halt_nvShadow : (s.halt).nvShadow = s.nvShadow := rfl
@[simp] theorem halt_vShadow : (s.halt).vShadow = s.vShadow := rfl
@[simp] theorem halt_pollStart : (s.halt).pollStart = s.pollStart := rfl
@[simp] theorem halt_pinOwner : (s.halt).pinOwner = s.pinOwner := rfl
@[simp] theorem halt_mm : (s.halt).mm = s.mm := rfl
@[simp] theorem halt_privWin : (s.halt).privWin = s.privWin := rfl
@[simp] theorem halt_cmd : (s.halt).cmd = none := rfl
@[simp] theorem halt_agenda : (s.halt).agenda = [] := rfl
@[simp] theorem halt_rx : (s.halt).rx = s.rx := rfl
@[simp] theorem halt_blk : (s.halt).blk = s.blk := rfl
@[simp] theorem halt_err : (s.halt).err = s.err := rfl
@[simp] theorem halt_now : (s.halt).now = s.now := rfl
@[simp] theorem halt_ret : (s.halt).ret = s.ret := rfl
@[simp] theorem halt_primWrite : (s.halt).primWrite = s.primWrite := rfl
@[simp] theorem halt_primRead : (s.halt).primRead = s.primRead := rfl
@[simp] theorem halt_primTimer : (s.halt).primTimer = s.primTimer := rfl
@[simp] theorem halt_params : (s.halt).params = s.params := rfl
@[simp] theorem halt_resetIn : (s.halt).resetIn = s.resetIn := rfl
@[simp] theorem halt_inbox : (s.halt).inbox = s.inbox := rfl
@[simp] theorem halt_btpIn : (s.halt).btpIn = s.btpIn := rfl
@[simp] theorem halt_mmIn : (s.halt).mmIn = s.mmIn := rfl
@[simp] theorem halt_tickIn : (s.halt).tickIn = s.tickIn := rfl
@[simp] theorem halt_draws : (s.halt).draws = s.draws := rfl
@[simp] theorem halt_events : (s.halt).events = s.events := rfl

@[simp] theorem respond_ctx (w : Bool) : (s.respond w).ctx = s.ctx := rfl
@[simp] theorem respond_seq (w : Bool) : (s.respond w).seq = s.seq := rfl
@[simp] theorem respond_res (w : Bool) : (s.respond w).res = s.res := rfl
@[simp] theorem respond_nvShadow (w : Bool) : (s.respond w).nvShadow = s.nvShadow := rfl
@[simp] theorem respond_vShadow (w : Bool) : (s.respond w).vShadow = s.vShadow := rfl
@[simp] theorem respond_pollStart (w : Bool) : (s.respond w).pollStart = s.pollStart := rfl
@[simp] theorem respond_pinOwner (w : Bool) : (s.respond w).pinOwner = s.pinOwner := rfl
@[simp] theorem respond_mm (w : Bool) : (s.respond w).mm = s.mm := rfl
@[simp] theorem respond_privWin (w : Bool) : (s.respond w).privWin = s.privWin := rfl
@[simp] theorem respond_cmd (w : Bool) : (s.respond w).cmd = none := rfl
@[simp] theorem respond_agenda (w : Bool) : (s.respond w).agenda = [] := rfl
@[simp] theorem respond_rx (w : Bool) : (s.respond w).rx = [] := rfl
@[simp] theorem respond_blk (w : Bool) : (s.respond w).blk = [] := rfl
@[simp] theorem respond_err (w : Bool) : (s.respond w).err = none := rfl
@[simp] theorem respond_now (w : Bool) : (s.respond w).now = 0 := rfl
@[simp] theorem respond_ret (w : Bool) : (s.respond w).ret = .none := rfl
@[simp] theorem respond_primWrite (w : Bool) : (s.respond w).primWrite = s.primWrite := rfl
@[simp] theorem respond_primRead (w : Bool) : (s.respond w).primRead = s.primRead := rfl
@[simp] theorem respond_primTimer (w : Bool) : (s.respond w).primTimer = s.primTimer := rfl
@[simp] theorem respond_params (w : Bool) : (s.respond w).params = s.params := rfl
@[simp] theorem respond_resetIn (w : Bool) : (s.respond w).resetIn = s.resetIn := rfl
@[simp] theorem respond_inbox (w : Bool) : (s.respond w).inbox = s.inbox := rfl
@[simp] theorem respond_btpIn (w : Bool) : (s.respond w).btpIn = s.btpIn := rfl
@[simp] theorem respond_mmIn (w : Bool) : (s.respond w).mmIn = s.mmIn := rfl
@[simp] theorem respond_tickIn (w : Bool) : (s.respond w).tickIn = s.tickIn := rfl
@[simp] theorem respond_draws (w : Bool) : (s.respond w).draws = s.draws := rfl
@[simp] theorem respond_events (w : Bool) : (s.respond w).events = s.events ++ [.rsp s.res (s.rspData w)] := rfl

@[simp] theorem hwReset_ctx : s.hwReset.ctx = ctxDefault s.params := rfl
@[simp] theorem hwReset_seq : s.hwReset.seq = State.reset.seq := rfl
@[simp] theorem hwReset_res : s.hwReset.res = State.reset.res := rfl
@[simp] theorem hwReset_nvShadow : s.hwReset.nvShadow = List.replicate s.params.regBlockLen 0 := rfl
@[simp] theorem hwReset_vShadow : s.hwReset.vShadow = List.replicate s.params.regBlockLen 0 := rfl
@[simp] theorem hwReset_pollStart : s.hwReset.pollStart = State.reset.pollStart := rfl
@[simp] theorem hwReset_pinOwner : s.hwReset.pinOwner = State.reset.pinOwner := rfl
@[simp] theorem hwReset_mm : s.hwReset.mm = State.reset.mm := rfl
@[simp] theorem hwReset_privWin : s.hwReset.privWin = State.reset.privWin := rfl
@[simp] theorem hwReset_cmd : s.hwReset.cmd = State.reset.cmd := rfl
@[simp] theorem hwReset_agenda : s.hwReset.agenda = State.reset.agenda := rfl
@[simp] theorem hwReset_rx : s.hwReset.rx = State.reset.rx := rfl
@[simp] theorem hwReset_blk : s.hwReset.blk = State.reset.blk := rfl
@[simp] theorem hwReset_err : s.hwReset.err = State.reset.err := rfl
@[simp] theorem hwReset_now : s.hwReset.now = State.reset.now := rfl
@[simp] theorem hwReset_ret : s.hwReset.ret = State.reset.ret := rfl
@[simp] theorem hwReset_primWrite : s.hwReset.primWrite = s.primWrite := rfl
@[simp] theorem hwReset_primRead : s.hwReset.primRead = s.primRead := rfl
@[simp] theorem hwReset_primTimer : s.hwReset.primTimer = s.primTimer := rfl
@[simp] theorem hwReset_params : s.hwReset.params = s.params := rfl
@[simp] theorem hwReset_resetIn : s.hwReset.resetIn = State.reset.resetIn := rfl
@[simp] theorem hwReset_inbox : s.hwReset.inbox = s.inbox := rfl
@[simp] theorem hwReset_btpIn : s.hwReset.btpIn = s.btpIn := rfl
@[simp] theorem hwReset_mmIn : s.hwReset.mmIn = s.mmIn := rfl
@[simp] theorem hwReset_tickIn : s.hwReset.tickIn = s.tickIn := rfl
@[simp] theorem hwReset_draws : s.hwReset.draws = s.draws := rfl
@[simp] theorem hwReset_events : s.hwReset.events = s.events := rfl

@[simp] theorem received_ctx (f : Frame) (l : List Byte) : (s.received f l).ctx = s.ctx := by
  unfold State.received; split <;> rfl
@[simp] theorem received_seq (f : Frame) (l : List Byte) : (s.received f l).seq = s.seq := by
  unfold State.received; split <;> rfl
@[simp] theorem received_res (f : Frame) (l : List Byte) : (s.received f l).res = s.res := by
  unfold State.received; split <;> rfl
@[simp] theorem received_nvShadow (f : Frame) (l : List Byte) : (s.received f l).nvShadow = s.nvShadow := by
  unfold State.received; split <;> rfl
@[simp] theorem received_vShadow (f : Frame) (l : List Byte) : (s.received f l).vShadow = s.vShadow := by
  unfold State.received; split <;> rfl
@[simp] theorem received_pollStart (f : Frame) (l : List Byte) : (s.received f l).pollStart = s.pollStart := by
  unfold State.received; split <;> rfl
@[simp] theorem received_pinOwner (f : Frame) (l : List Byte) : (s.received f l).pinOwner = s.pinOwner := by
  unfold State.received; split <;> rfl
@[simp] theorem received_mm (f : Frame) (l : List Byte) : (s.received f l).mm = s.mm := by
  unfold State.received; split <;> rfl
@[simp] theorem received_privWin (f : Frame) (l : List Byte) : (s.received f l).privWin = s.privWin := by
  unfold State.received; split <;> rfl
@[simp] theorem received_cmd (f : Frame) (l : List Byte) : (s.received f l).cmd = s.cmd := by
  unfold State.received; split <;> rfl
@[simp] theorem received_agenda (f : Frame) (l : List Byte) : (s.received f l).agenda = s.agenda := by
  unfold State.received; split <;> rfl
@[simp] theorem received_blk (f : Frame) (l : List Byte) : (s.received f l).blk = s.blk := by
  unfold State.received; split <;> rfl
@[simp] theorem received_err (f : Frame) (l : List Byte) : (s.received f l).err = s.err := by
  unfold State.received; split <;> rfl
@[simp] theorem received_now (f : Frame) (l : List Byte) : (s.received f l).now = s.now := by
  unfold State.received; split <;> rfl
@[simp] theorem received_ret (f : Frame) (l : List Byte) : (s.received f l).ret = s.ret := by
  unfold State.received; split <;> rfl
@[simp] theorem received_primWrite (f : Frame) (l : List Byte) : (s.received f l).primWrite = s.primWrite := by
  unfold State.received; split <;> rfl
@[simp] theorem received_primRead (f : Frame) (l : List Byte) : (s.received f l).primRead = s.primRead := by
  unfold State.received; split <;> rfl
@[simp] theorem received_primTimer (f : Frame) (l : List Byte) : (s.received f l).primTimer = s.primTimer := by
  unfold State.received; split <;> rfl
@[simp] theorem received_params (f : Frame) (l : List Byte) : (s.received f l).params = s.params := by
  unfold State.received; split <;> rfl
@[simp] theorem received_resetIn (f : Frame) (l : List Byte) : (s.received f l).resetIn = s.resetIn := by
  unfold State.received; split <;> rfl
@[simp] theorem received_inbox (f : Frame) (l : List Byte) : (s.received f l).inbox = s.inbox := by
  unfold State.received; split <;> rfl
@[simp] theorem received_btpIn (f : Frame) (l : List Byte) : (s.received f l).btpIn = s.btpIn := by
  unfold State.received; split <;> rfl
@[simp] theorem received_mmIn (f : Frame) (l : List Byte) : (s.received f l).mmIn = s.mmIn := by
  unfold State.received; split <;> rfl
@[simp] theorem received_tickIn (f : Frame) (l : List Byte) : (s.received f l).tickIn = s.tickIn := by
  unfold State.received; split <;> rfl
@[simp] theorem received_draws (f : Frame) (l : List Byte) : (s.received f l).draws = s.draws := by
  unfold State.received; split <;> rfl
@[simp] theorem received_events (f : Frame) (l : List Byte) : (s.received f l).events = s.events := by
  unfold State.received; split <;> rfl
@[simp] theorem received_rx (f : Frame) (l : List Byte) :
    (s.received f l).rx = if f.receives = true then l else s.rx := by
  unfold State.received; split <;> rfl

@[simp] theorem configured_ctx (c : MmCall) : (s.configured c).ctx = s.ctx := by cases c <;> rfl
@[simp] theorem configured_seq (c : MmCall) : (s.configured c).seq = s.seq := by cases c <;> rfl
@[simp] theorem configured_res (c : MmCall) : (s.configured c).res = s.res := by cases c <;> rfl
@[simp] theorem configured_nvShadow (c : MmCall) : (s.configured c).nvShadow = s.nvShadow := by cases c <;> rfl
@[simp] theorem configured_vShadow (c : MmCall) : (s.configured c).vShadow = s.vShadow := by cases c <;> rfl
@[simp] theorem configured_pollStart (c : MmCall) : (s.configured c).pollStart = s.pollStart := by cases c <;> rfl
@[simp] theorem configured_pinOwner (c : MmCall) : (s.configured c).pinOwner = s.pinOwner := by cases c <;> rfl
@[simp] theorem configured_mm (c : MmCall) : (s.configured c).mm = s.mm := by cases c <;> rfl
@[simp] theorem configured_privWin (c : MmCall) : (s.configured c).privWin = s.privWin := by cases c <;> rfl
@[simp] theorem configured_cmd (c : MmCall) : (s.configured c).cmd = s.cmd := by cases c <;> rfl
@[simp] theorem configured_agenda (c : MmCall) : (s.configured c).agenda = s.agenda := by cases c <;> rfl
@[simp] theorem configured_rx (c : MmCall) : (s.configured c).rx = s.rx := by cases c <;> rfl
@[simp] theorem configured_blk (c : MmCall) : (s.configured c).blk = s.blk := by cases c <;> rfl
@[simp] theorem configured_err (c : MmCall) : (s.configured c).err = s.err := by cases c <;> rfl
@[simp] theorem configured_now (c : MmCall) : (s.configured c).now = s.now := by cases c <;> rfl
@[simp] theorem configured_ret (c : MmCall) : (s.configured c).ret = s.ret := by cases c <;> rfl
@[simp] theorem configured_params (c : MmCall) : (s.configured c).params = s.params := by cases c <;> rfl
@[simp] theorem configured_resetIn (c : MmCall) : (s.configured c).resetIn = s.resetIn := by cases c <;> rfl
@[simp] theorem configured_inbox (c : MmCall) : (s.configured c).inbox = s.inbox := by cases c <;> rfl
@[simp] theorem configured_btpIn (c : MmCall) : (s.configured c).btpIn = s.btpIn := by cases c <;> rfl
@[simp] theorem configured_mmIn (c : MmCall) : (s.configured c).mmIn = s.mmIn := by cases c <;> rfl
@[simp] theorem configured_tickIn (c : MmCall) : (s.configured c).tickIn = s.tickIn := by cases c <;> rfl
@[simp] theorem configured_draws (c : MmCall) : (s.configured c).draws = s.draws := by cases c <;> rfl
@[simp] theorem configured_events (c : MmCall) : (s.configured c).events = s.events := by cases c <;> rfl
@[simp] theorem raise_ctx (k : Failure) : (s.raise k).ctx = s.ctx := by
  unfold State.raise; split <;> rfl
@[simp] theorem raise_seq (k : Failure) : (s.raise k).seq = s.seq := by
  unfold State.raise; split <;> rfl
@[simp] theorem raise_res (k : Failure) : (s.raise k).res = s.res := by
  unfold State.raise; split <;> rfl
@[simp] theorem raise_nvShadow (k : Failure) : (s.raise k).nvShadow = s.nvShadow := by
  unfold State.raise; split <;> rfl
@[simp] theorem raise_vShadow (k : Failure) : (s.raise k).vShadow = s.vShadow := by
  unfold State.raise; split <;> rfl
@[simp] theorem raise_pollStart (k : Failure) : (s.raise k).pollStart = s.pollStart := by
  unfold State.raise; split <;> rfl
@[simp] theorem raise_pinOwner (k : Failure) : (s.raise k).pinOwner = s.pinOwner := by
  unfold State.raise; split <;> rfl
@[simp] theorem raise_mm (k : Failure) : (s.raise k).mm = s.mm := by
  unfold State.raise; split <;> rfl
@[simp] theorem raise_privWin (k : Failure) : (s.raise k).privWin = s.privWin := by
  unfold State.raise; split <;> rfl
@[simp] theorem raise_cmd (k : Failure) : (s.raise k).cmd = s.cmd := by
  unfold State.raise; split <;> rfl
@[simp] theorem raise_rx (k : Failure) : (s.raise k).rx = s.rx := by
  unfold State.raise; split <;> rfl
@[simp] theorem raise_blk (k : Failure) : (s.raise k).blk = s.blk := by
  unfold State.raise; split <;> rfl
@[simp] theorem raise_now (k : Failure) : (s.raise k).now = s.now := by
  unfold State.raise; split <;> rfl
@[simp] theorem raise_ret (k : Failure) : (s.raise k).ret = s.ret := by
  unfold State.raise; split <;> rfl
@[simp] theorem raise_primWrite (k : Failure) : (s.raise k).primWrite = s.primWrite := by
  unfold State.raise; split <;> rfl
@[simp] theorem raise_primRead (k : Failure) : (s.raise k).primRead = s.primRead := by
  unfold State.raise; split <;> rfl
@[simp] theorem raise_primTimer (k : Failure) : (s.raise k).primTimer = s.primTimer := by
  unfold State.raise; split <;> rfl
@[simp] theorem raise_params (k : Failure) : (s.raise k).params = s.params := by
  unfold State.raise; split <;> rfl
@[simp] theorem raise_resetIn (k : Failure) : (s.raise k).resetIn = s.resetIn := by
  unfold State.raise; split <;> rfl
@[simp] theorem raise_inbox (k : Failure) : (s.raise k).inbox = s.inbox := by
  unfold State.raise; split <;> rfl
@[simp] theorem raise_btpIn (k : Failure) : (s.raise k).btpIn = s.btpIn := by
  unfold State.raise; split <;> rfl
@[simp] theorem raise_mmIn (k : Failure) : (s.raise k).mmIn = s.mmIn := by
  unfold State.raise; split <;> rfl
@[simp] theorem raise_tickIn (k : Failure) : (s.raise k).tickIn = s.tickIn := by
  unfold State.raise; split <;> rfl
@[simp] theorem raise_draws (k : Failure) : (s.raise k).draws = s.draws := by
  unfold State.raise; split <;> rfl
@[simp] theorem raise_events (k : Failure) : (s.raise k).events = s.events := by
  unfold State.raise; split <;> rfl

end Sys2Proof.Machine.State
end

