-- ==== Sys2Proof/Laws/Ops.lean ====
section
/-! SUPPORT. What each shared operation can do, said once. -/

namespace Sys2Proof.Machine

open Sys2Proof

/-! ## Guards -/

theorem onBus_eq_next {s t u : State} (h : onBus s t = .next u) : s.busFree ∧ u = t := by
  unfold onBus at h
  split at h
  · cases h
  · split at h
    · cases h
    · rename_i h1 h2
      cases hp : s.pinOwner
      · exact ⟨⟨h1, hp⟩, by cases h; rfl⟩
      · exact absurd hp h2

theorem onBus_of_free {s t : State} (h : s.busFree) : onBus s t = .next t := by
  simp [onBus, h.1, h.2]

theorem unlessHalted_eq_next {s t u : State} (h : unlessHalted s t = .next u) : s.seq ≠ .fatal ∧ u = t := by
  unfold unlessHalted at h
  split at h
  · cases h
  · rename_i h1; exact ⟨h1, by cases h; rfl⟩

/-- A host command is taken exactly when the block is idle and not in FATAL (R172, R300). -/
theorem accept_eq_next {i : Instr} {ms : List Micro} {s u : State} (h : accept i ms s = .next u) :
    s.seq ≠ .fatal ∧ s.busy = false ∧ u = { s.emit (.cmd i) with cmd := some i, agenda := ms, err := none } := by
  unfold accept at h
  split at h
  · cases h
  · split at h
    · cases h
    · rename_i h1 h2; exact ⟨h1, by simpa using h2, by cases h; rfl⟩

theorem accept_of_idle {i : Instr} {ms : List Micro} {s : State} (h1 : s.seq ≠ .fatal) (h2 : s.busy = false) :
    accept i ms s = .next { s with cmd := some i, agenda := ms, err := none, events := s.events ++ [.cmd i] } := by
  simp [accept, h1, h2, State.emit]

theorem idle_of_not_busy {s : State} (h : s.busy = false) :
    s.cmd = none ∧ s.agenda = [] ∧ s.seq.resting = true := by
  cases hc : s.cmd <;> cases ha : s.agenda <;> cases hs : s.seq.resting <;> simp_all [State.busy]

/-! ## Answers -/

theorem btpAnswer_of_ok {s : State} {f : Frame} {l : List Byte} {q : List (Option Answer)}
    (h : s.btpIn = some (.ok l) :: q) (hl : l.length = f.rxLen) : s.btpAnswer f = some (.ok l) := by
  simp [State.btpAnswer, State.okBytes, h, hl]

theorem btpAnswer_of_fail {s : State} {f : Frame} {q : List (Option Answer)} (h : s.btpIn = some .fail :: q) :
    s.btpAnswer f = some .fail := by
  simp [State.btpAnswer, h]

theorem btpAnswer_of_pending {s : State} {f : Frame} {q : List (Option Answer)} (h : s.btpIn = none :: q) :
    s.btpAnswer f = none := by
  simp [State.btpAnswer, h]

/-- An Ok answer gives as many bytes as the frame asks for (R92). -/
theorem btpAnswer_length {s : State} {f : Frame} {l : List Byte} (h : s.btpAnswer f = some (.ok l)) :
    l.length = f.rxLen := by
  unfold State.btpAnswer at h
  split at h
  · simp only [State.okBytes, Option.some.injEq, Answer.ok.injEq] at h
    split at h <;> (subst h; simp [*])
  · simp at h
  · simp at h
  · split at h <;> simp at h
    subst h; simp

theorem mmAnswer_of_head {s : State} {a : Option MmAnswer} {q : List (Option MmAnswer)} (h : s.mmIn = a :: q) :
    s.mmAnswer = a := by
  simp [State.mmAnswer, h]

/-- A tick is a value of `TICK_W` bits (R244). -/
theorem tickAnswer_lt (s : State) : s.tickAnswer < 2 ^ s.params.tickW := by
  unfold State.tickAnswer
  split <;> exact Nat.mod_lt _ (Nat.two_pow_pos _)

theorem tickAnswer_of_head {s : State} {v : Nat} {q : List Nat} (h : s.tickIn = v :: q) :
    s.tickAnswer = v % 2 ^ s.params.tickW := by
  simp [State.tickAnswer, h]

/-! ## Raising a failure (R286) -/

/-- Everything `raise` can do: go to the cleanup of `reProvision`, or leave the steps that end another command. -/
theorem raise_cases (s : State) (k : Failure) :
    (s.cmd = some .reprov ∧ s.raise k = { s with err := s.err.or (some k), agenda := cleanupProgram }) ∨
    (s.cmd ≠ some .reprov ∧ s.raise k = { s with agenda := failProgram s.cmd k }) := by
  unfold State.raise
  split
  · exact .inl ⟨by assumption, rfl⟩
  · rename_i h; exact .inr ⟨fun e => h e, rfl⟩

/-- The steps that end a failed command: ERROR first inside `initialize`, and only there (R211, R286). -/
theorem failProgram_cases (c : Option Instr) (k : Failure) :
    (isInit c = true ∧ failProgram c k = .enterError :: endProgram k.toResult false) ∨
    (isInit c = false ∧ failProgram c k = endProgram k.toResult false) := by
  unfold failProgram
  split
  · exact .inl ⟨rfl, rfl⟩
  · rename_i h
    refine .inr ⟨?_, rfl⟩
    unfold isInit
    split
    · rename_i a b d; exact absurd rfl (h a b d)
    · rfl

/-! ## Calls -/

/-- Everything a call `Btp!` can do (R155). -/
theorem btpBang_cases (s : State) (m : Micro) (f : Frame) (onOk : List Micro) :
    (s.btpAnswer f = none ∧ s.btpBang m f onOk = s.drewBtp.push [m]) ∨
    (s.btpAnswer f = some .fail ∧ s.btpBang m f onOk = (s.drewBtp.emit (.btp f .fail)).raise .transport) ∨
    (∃ l, s.btpAnswer f = some (.ok l) ∧ l.length = f.rxLen ∧
      s.btpBang m f onOk = ((s.drewBtp.emit (.btp f (.ok l))).received f l).push onOk) := by
  unfold State.btpBang
  split
  · exact .inl ⟨by assumption, rfl⟩
  · exact .inr (.inl ⟨by assumption, rfl⟩)
  · rename_i l h; exact .inr (.inr ⟨l, h, btpAnswer_length h, rfl⟩)

/-- Everything a plain `Btp` of the cleanup can do (R229). -/
theorem btpPlain_cases (s : State) (m : Micro) (f : Frame) (onOk onFail : List Micro) :
    (s.btpAnswer f = none ∧ s.btpPlain m f onOk onFail = s.drewBtp.push [m]) ∨
    (s.btpAnswer f = some .fail ∧ s.btpPlain m f onOk onFail =
      ({ s.drewBtp with err := s.err.or (some .transport) }.emit (.btp f .fail)).push onFail) ∨
    (∃ l, s.btpAnswer f = some (.ok l) ∧ s.btpPlain m f onOk onFail =
      (s.drewBtp.emit (.btp f (.ok l))).push onOk) := by
  unfold State.btpPlain
  split
  · exact .inl ⟨by assumption, rfl⟩
  · exact .inr (.inl ⟨by assumption, rfl⟩)
  · rename_i l h; exact .inr (.inr ⟨l, h, rfl⟩)

/-- Everything a call `BtpMm` can do (R256, R259). -/
theorem mmBang_cases (s : State) (m : Micro) (c : MmCall) :
    (s.mmAnswer = none ∧ s.mmBang m c = s.drewMm.push [m]) ∨
    (s.mmAnswer = some .fail ∧ s.mmBang m c = { s.drewMm.emit (.mm c .fail) with agenda := [.enterFatal] }) ∨
    (s.mmAnswer = some .ok ∧ s.mmBang m c = (s.drewMm.emit (.mm c .ok)).configured c) := by
  unfold State.mmBang
  split
  · exact .inl ⟨by assumption, rfl⟩
  · exact .inr (.inl ⟨by assumption, rfl⟩)
  · exact .inr (.inr ⟨by assumption, rfl⟩)

/-- A call `Btp!` that the script answers Ok. -/
theorem btpBang_ok {m : Micro} {f : Frame} {onOk : List Micro} {s : State} {l : List Byte} {q : List (Option Answer)}
    (h : s.btpIn = some (.ok l) :: q) (hl : l.length = f.rxLen) :
    s.btpBang m f onOk = { s with btpIn := q, draws := s.draws + 1, events := s.events ++ [sent f l],
                                  rx := if f.receives = true then l else s.rx, agenda := onOk ++ s.agenda } := by
  rw [State.btpBang, btpAnswer_of_ok h hl]
  cases hr : f.receives <;> simp [State.received, hr, State.push, State.emit, State.drewBtp, sent, h]

/-- A wire command of one frame whose call answers Ok. -/
theorem issue_ok {m : Micro} {f : Frame} {s : State} {l : List Byte} {q : List (Option Answer)} (hs : s.busFree)
    (h : s.btpIn = some (.ok l) :: q) (hl : l.length = f.rxLen) :
    issue m f s = .next { s with btpIn := q, draws := s.draws + 1, events := s.events ++ [sent f l],
                                 rx := if f.receives = true then l else s.rx } := by
  rw [issue, onBus_of_free hs, btpBang_ok h hl, List.nil_append]

/-- The WREN frame of a write command, answered Ok: the command's own frame is the next step (R74). -/
theorem issuePair_ok {i : Instr} {s : State} {q : List (Option Answer)} (hs : s.busFree)
    (h : s.btpIn = some (.ok []) :: q) :
    issuePair i s = .next { s with btpIn := q, draws := s.draws + 1, agenda := .second i :: s.agenda,
                                   events := s.events ++ [sent (bareFrame s.params.op.wren s.ctx) []] } := by
  rw [issuePair, onBus_of_free hs, btpBang_ok h (by rfl)]
  rfl

/-! ## Steps and runs -/

/-- A running command makes its next step. -/
theorem step_of_agenda {s : State} {m : Micro} {rest : List Micro} (hr : s.resetIn = false) (hf : s.seq ≠ .fatal)
    (ha : s.agenda = m :: rest) : step s = runMicro m { s with agenda := rest } := by
  simp [step, hr, hf, ha]

theorem step_of_idle {s : State} (hr : s.resetIn = false) (hf : s.seq ≠ .fatal) (ha : s.agenda = []) :
    step s = serveHost s := by
  simp [step, hr, hf, ha]

@[simp] theorem run_zero (s : State) : run 0 s = .next s := rfl

theorem run_succ {n : Nat} {s t : State} (h : step s = .next t) : run (n + 1) s = run n t := by
  have : Sys2Proof.core.step s = .next t := h
  simp only [run, Host.Core.run, this]
  rfl

theorem run_add {m n : Nat} {s t : State} (h : run m s = .next t) : run (m + n) s = run n t := by
  induction m generalizing s with
  | zero => simp only [run_zero, Host.Outcome.next.injEq] at h; subst h; simp
  | succ m ih =>
    cases hs : step s with
    | next u =>
      rw [Nat.add_right_comm, run_succ hs]
      rw [run_succ hs] at h
      exact ih h
    | fault r =>
      have : Sys2Proof.core.step s = .fault r := hs
      simp [run, Host.Core.run, this] at h
    | refused r =>
      have : Sys2Proof.core.step s = .refused r := hs
      simp [run, Host.Core.run, this] at h

end Sys2Proof.Machine
end

