-- ==== Sys2Proof/Laws/PerInstr.lean ====
section
/-! SUPPORT. Families of statements with one lemma per instruction. -/

namespace Sys2Proof.Laws

open Sys2Proof

/-- A frame whose line counts and address width are those of a Mode Context (R91). -/
def InContext (c : Ctx) (f : Frame) : Prop :=
  f.ilines = c.ilm ∧
  (∀ p, f.addr = some p → p.alines = c.alm ∧ p.awidth = c.abw) ∧
  (∀ l n, f.data = some (.recv l n) → l = c.dlm) ∧
  (∀ l v, f.data = some (.send l v) → l = c.dlm)

theorem inContext_of_frameOf {P : Params} {c : Ctx} {i : Instr} {f : Frame} (h : frameOf P c i = some f) :
  InContext c f := by
  cases i <;> simp only [frameOf, Option.some.injEq, reduceCtorEq] at h <;>
    (subst h
     simp +contextual [InContext, bareFrame, regReadFrame, regWriteFrame, subregReadFrame, subregWriteFrame,
       arrayReadFrame, arrayWriteFrame, addrPhase, recvPhase, sendPhase, eq_comm])

theorem frameOf_of_encode {P : Params} {c : Ctx} {i : Instr} {f : Frame} (h : encode P c i = some (.wire f)) :
    frameOf P c i = some f := by
  unfold encode at h
  split at h
  · simp at h
  · split at h
    · rename_i g hg
      simp only [Option.some.injEq, Code.wire.injEq] at h
      rw [hg, h]
    · cases i <;> simp [encodePort] at h

namespace ContextShape

/-- The frame an instruction is encoded as carries the line counts and the address width of the Mode Context, and
nothing else decides them (R91, R94). -/
def Statement (i : Instr) : Prop := ∀ P c f, encode P c i = some (.wire f) → InContext c f

theorem wren : Statement .wren := fun _ _ _ h => inContext_of_frameOf (frameOf_of_encode h)
theorem wrdi : Statement .wrdi := fun _ _ _ h => inContext_of_frameOf (frameOf_of_encode h)
theorem rdsr : Statement .rdsr := fun _ _ _ h => inContext_of_frameOf (frameOf_of_encode h)
theorem wrsr (b : Byte) : Statement (.wrsr b) := fun _ _ _ h => inContext_of_frameOf (frameOf_of_encode h)
theorem rdfsr : Statement .rdfsr := fun _ _ _ h => inContext_of_frameOf (frameOf_of_encode h)
theorem clfsr : Statement .clfsr := fun _ _ _ h => inContext_of_frameOf (frameOf_of_encode h)
theorem rdid : Statement .rdid := fun _ _ _ h => inContext_of_frameOf (frameOf_of_encode h)
theorem rdnvcr (i : SubregIndex) : Statement (.rdnvcr i) := fun _ _ _ h => inContext_of_frameOf (frameOf_of_encode h)
theorem wrnvcr (i : SubregIndex) (b : Byte) : Statement (.wrnvcr i b) :=
  fun _ _ _ h => inContext_of_frameOf (frameOf_of_encode h)
theorem rdvcr (i : SubregIndex) : Statement (.rdvcr i) := fun _ _ _ h => inContext_of_frameOf (frameOf_of_encode h)
theorem wrvcr (i : SubregIndex) (b : Byte) : Statement (.wrvcr i b) :=
  fun _ _ _ h => inContext_of_frameOf (frameOf_of_encode h)
theorem readFast (a : Address) (n : Length) : Statement (.readFast a n) :=
  fun _ _ _ h => inContext_of_frameOf (frameOf_of_encode h)
theorem readDual (a : Address) (n : Length) : Statement (.readDual a n) :=
  fun _ _ _ h => inContext_of_frameOf (frameOf_of_encode h)
theorem readQuad (a : Address) (n : Length) : Statement (.readQuad a n) :=
  fun _ _ _ h => inContext_of_frameOf (frameOf_of_encode h)
theorem readOctal (a : Address) (n : Length) : Statement (.readOctal a n) :=
  fun _ _ _ h => inContext_of_frameOf (frameOf_of_encode h)
theorem readOctalDtr (a : Address) (n : Length) : Statement (.readOctalDtr a n) :=
  fun _ _ _ h => inContext_of_frameOf (frameOf_of_encode h)
theorem writeStd (a : Address) (v : List Byte) : Statement (.writeStd a v) :=
  fun _ _ _ h => inContext_of_frameOf (frameOf_of_encode h)
theorem writeDual (a : Address) (v : List Byte) : Statement (.writeDual a v) :=
  fun _ _ _ h => inContext_of_frameOf (frameOf_of_encode h)
theorem writeQuad (a : Address) (v : List Byte) : Statement (.writeQuad a v) :=
  fun _ _ _ h => inContext_of_frameOf (frameOf_of_encode h)
theorem writeOctalExt (a : Address) (v : List Byte) : Statement (.writeOctalExt a v) :=
  fun _ _ _ h => inContext_of_frameOf (frameOf_of_encode h)
theorem eraseChipFrame : Statement .eraseChipFrame := fun _ _ _ h => inContext_of_frameOf (frameOf_of_encode h)
theorem init (cfg : Record) (w : Nat) (dtr : Bool) : Statement (.init cfg w dtr) :=
  fun _ _ _ h => inContext_of_frameOf (frameOf_of_encode h)
theorem reprov : Statement .reprov := fun _ _ _ h => inContext_of_frameOf (frameOf_of_encode h)
theorem read (a : Address) (n : Length) : Statement (.read a n) :=
  fun _ _ _ h => inContext_of_frameOf (frameOf_of_encode h)
theorem write (a : Address) (v : List Byte) : Statement (.write a v) :=
  fun _ _ _ h => inContext_of_frameOf (frameOf_of_encode h)
theorem eraseChip : Statement .eraseChip := fun _ _ _ h => inContext_of_frameOf (frameOf_of_encode h)
theorem readId : Statement .readId := fun _ _ _ h => inContext_of_frameOf (frameOf_of_encode h)
theorem readStatus : Statement .readStatus := fun _ _ _ h => inContext_of_frameOf (frameOf_of_encode h)
theorem readFlags : Statement .readFlags := fun _ _ _ h => inContext_of_frameOf (frameOf_of_encode h)
theorem clearFlags : Statement .clearFlags := fun _ _ _ h => inContext_of_frameOf (frameOf_of_encode h)
theorem poll (timeout : Nat) : Statement (.poll timeout) := fun _ _ _ h => inContext_of_frameOf (frameOf_of_encode h)
theorem mmap : Statement .mmap := fun _ _ _ h => inContext_of_frameOf (frameOf_of_encode h)
theorem reservedCmd (code : Byte) : Statement (.reservedCmd code) :=
  fun _ _ _ h => inContext_of_frameOf (frameOf_of_encode h)
theorem encodeRecord (cfg : Record) : Statement (.encodeRecord cfg) :=
  fun _ _ _ h => inContext_of_frameOf (frameOf_of_encode h)
theorem decodeImage (img : Image) : Statement (.decodeImage img) :=
  fun _ _ _ h => inContext_of_frameOf (frameOf_of_encode h)
theorem derive (w : Nat) (dtr : Bool) (cfg : Record) : Statement (.derive w dtr cfg) :=
  fun _ _ _ h => inContext_of_frameOf (frameOf_of_encode h)
theorem busReset : Statement .busReset := fun _ _ _ h => inContext_of_frameOf (frameOf_of_encode h)
theorem line (l : SignalLine) (v : Bool) : Statement (.line l v) :=
  fun _ _ _ h => inContext_of_frameOf (frameOf_of_encode h)
theorem mmSetWrite (tw : Template) : Statement (.mmSetWrite tw) :=
  fun _ _ _ h => inContext_of_frameOf (frameOf_of_encode h)
theorem mmSetRead (tr : Template) : Statement (.mmSetRead tr) :=
  fun _ _ _ h => inContext_of_frameOf (frameOf_of_encode h)
theorem mmEnable : Statement .mmEnable := fun _ _ _ h => inContext_of_frameOf (frameOf_of_encode h)

end ContextShape

end Sys2Proof.Laws
end

