-- ==== Sys2Proof/Laws/Runs.lean ====
section
/-! SUPPORT. Runs made of one kind of step: what a frame, a write pair, a block write and a block read do when the
script answers them. -/

namespace Sys2Proof.Machine

open Sys2Proof

/-! ## Wire commands -/

/-- Every wire command is one call for its first frame, followed by its own frame when it is a pair (R74, R155). -/
theorem wire_exec {i : Instr} {s : State} {f : Frame} (hi : i.isWire = true)
    (hf : firstFrame s.params s.ctx i = some f) :
    exec i s = onBus s (s.btpBang (.op i) f (if i.isPair = true then [.second i] else [])) := by
  cases i <;> first
    | exact absurd hi Bool.false_ne_true
    | (simp only [firstFrame, Instr.isPair, frameOf, if_true, Option.some.injEq] at hf; subst hf; rfl)
    | (simp only [firstFrame, Instr.isPair, frameOf, if_false, Option.some.injEq, Bool.false_eq_true] at hf
       subst hf; rfl)

theorem wire_firstFrame {i : Instr} (P : Params) (c : Ctx) (hi : i.isWire = true) : ∃ f, firstFrame P c i = some f := by
  cases i <;> first
    | exact absurd hi Bool.false_ne_true
    | exact ⟨_, rfl⟩

theorem btpBang_fail {m : Micro} {f : Frame} {onOk : List Micro} {s : State} {q : List (Option Answer)}
    (h : s.btpIn = some .fail :: q) :
    s.btpBang m f onOk = (s.drewBtp.emit (.btp f .fail)).raise .transport := by
  rw [State.btpBang, btpAnswer_of_fail h]

theorem btpBang_pending {m : Micro} {f : Frame} {onOk : List Micro} {s : State} {q : List (Option Answer)}
    (h : s.btpIn = none :: q) : s.btpBang m f onOk = s.drewBtp.push [m] := by
  rw [State.btpBang, btpAnswer_of_pending h]

/-! ## Reaching a state -/

/-- Some number of steps leads from one state to another. -/
def Reaches (s t : State) : Prop := ∃ n, run n s = .next t

theorem Reaches.refl (s : State) : Reaches s s := ⟨0, rfl⟩

theorem Reaches.trans {s t u : State} (h : Reaches s t) (k : Reaches t u) : Reaches s u := by
  obtain ⟨m, hm⟩ := h
  obtain ⟨n, hn⟩ := k
  exact ⟨m + n, by rw [run_add hm, hn]⟩

theorem Reaches.step {s t : State} (h : step s = .next t) : Reaches s t := ⟨1, by rw [run_succ h, run_zero]⟩

theorem Reaches.of_eq {s t u : State} (h : Reaches s t) (e : t = u) : Reaches s u := e ▸ h

/-- A running command's next step. -/
theorem Reaches.micro {s t : State} {m : Micro} {rest : List Micro} (hr : s.resetIn = false) (hf : s.seq ≠ .fatal)
    (ha : s.agenda = m :: rest) (h : runMicro m { s with agenda := rest } = .next t) : Reaches s t :=
  Reaches.step ((step_of_agenda hr hf ha).trans h)

/-- A wire command of one frame, answered Ok. -/
theorem Reaches.frame {s : State} {i : Instr} {f : Frame} {rest : List Micro} {l : List Byte}
    {q : List (Option Answer)} (hi : i.isWire = true) (hp : i.isPair = false) (hf : frameOf s.params s.ctx i = some f)
    (hs : s.busFree) (hr : s.resetIn = false) (ha : s.agenda = .op i :: rest) (hq : s.btpIn = some (.ok l) :: q)
    (hl : l.length = f.rxLen) :
    Reaches s { s with agenda := rest, btpIn := q, draws := s.draws + 1, events := s.events ++ [sent f l],
                       rx := if f.receives = true then l else s.rx } := by
  refine Reaches.micro hr hs.1 ha ?_
  have hff : firstFrame s.params s.ctx i = some f := by simp [firstFrame, hp, hf]
  rw [runMicro, wire_exec (s := { s with agenda := rest }) hi hff, onBus_of_free (s := { s with agenda := rest }) hs,
    btpBang_ok (s := { s with agenda := rest }) hq hl]
  simp [hp]

/-- A write pair, both frames answered Ok (R74). -/
theorem Reaches.pair {s : State} {i : Instr} {f : Frame} {rest : List Micro} {q : List (Option Answer)}
    (hi : i.isWire = true) (hp : i.isPair = true) (hf : frameOf s.params s.ctx i = some f) (hn : f.receives = false)
    (hs : s.busFree) (hr : s.resetIn = false) (ha : s.agenda = .op i :: rest)
    (hq : s.btpIn = some (.ok []) :: some (.ok []) :: q) :
    Reaches s { s with agenda := rest, btpIn := q, draws := s.draws + 2,
                       events := s.events ++ [sent (bareFrame s.params.op.wren s.ctx) [], sent f []] } := by
  have hl : f.rxLen = 0 := by
    unfold Frame.receives at hn
    unfold Frame.rxLen
    split
    · rename_i h; simp [h] at hn
    · rfl
  have hff : firstFrame s.params s.ctx i = some (bareFrame s.params.op.wren s.ctx) := by simp [firstFrame, hp]
  refine Reaches.trans (Reaches.micro hr hs.1 ha ?_)
    (Reaches.micro (s := { s with agenda := .second i :: rest, btpIn := some (.ok []) :: q, draws := s.draws + 1,
                                  events := s.events ++ [sent (bareFrame s.params.op.wren s.ctx) []] })
      (m := .second i) (rest := rest) hr hs.1 rfl ?_)
  · rw [runMicro, wire_exec (s := { s with agenda := rest }) hi hff,
      onBus_of_free (s := { s with agenda := rest }) hs, btpBang_ok (s := { s with agenda := rest }) hq (by rfl), hp]
    rfl
  · simp only [runMicro, secondStep, hf, issue]
    rw [onBus_of_free (s := { s with agenda := rest, btpIn := some (.ok []) :: q, draws := s.draws + 1,
                                     events := s.events ++ [sent (bareFrame s.params.op.wren s.ctx) []] }) hs,
      btpBang_ok (s := { s with agenda := rest, btpIn := some (.ok []) :: q, draws := s.draws + 1,
                                events := s.events ++ [sent (bareFrame s.params.op.wren s.ctx) []] }) rfl
        (by simpa using hl.symm)]
    simp [hn]

/-! ## Ticks -/

/-- Elapsed ticks are the difference modulo 2^TICK_W (R244). -/
theorem elapsed_eq {s : State} (hp : s.pollStart < 2 ^ s.params.tickW) (hn : s.now < 2 ^ s.params.tickW) :
    s.elapsed = ticksFrom s.params s.pollStart s.now := by
  unfold State.elapsed ticksFrom
  split
  · rw [Nat.add_comm, Nat.add_sub_assoc (by assumption), Nat.add_mod_left, Nat.mod_eq_of_lt (by omega)]
  · exact Nat.mod_eq_of_lt (by omega)

/-! ## Block transfers -/

@[simp] theorem encodeImage_length (P : Params) (c : Record) : (encodeImage P c).length = P.regBlockLen :=
  List.takeD_length ..

/-- The positions of an image of `REG_BLOCK_LEN` bytes that a block transfer covers are the same whether it reads or
writes (R167, R168). -/
theorem coveredBytes_pos {P : Params} {img : Image} (h : img.length = P.regBlockLen) (skip : List SubregIndex) :
    (coveredBytes img skip).map Prod.snd = covered P skip := by
  have e : img.zipIdx.map Prod.snd = List.range P.regBlockLen := by rw [← h, List.zipIdx_map_snd, List.range_eq_range']
  rw [covered, ← e, List.filter_map]; rfl

theorem coveredBytes_length {P : Params} {img : Image} (h : img.length = P.regBlockLen) (skip : List SubregIndex) :
    (coveredBytes img skip).length = (covered P skip).length := by
  rw [← coveredBytes_pos h, List.length_map]

/-- With nothing left out a block transfer is the whole image. -/
@[simp] theorem imageBytes_nil (img : Image) : imageBytes img [] = img := by
  simp [imageBytes, coveredBytes]

@[simp] theorem covered_nil_length (P : Params) : (covered P []).length = P.regBlockLen := by
  simp [covered]

/-- A block read of an image of `REG_BLOCK_LEN` bytes, over its bytes with their positions. -/
theorem readBlock_eq {P : Params} {img : Image} (h : img.length = P.regBlockLen) (sp : ConfigSpace)
    (skip : List SubregIndex) :
    readBlock P sp skip = .clearBlk ::
      (coveredBytes img skip).flatMap (fun p => [.op (sp.readCmd (subregIndex p.2)), .gather]) := by
  rw [readBlock, ← coveredBytes_pos h, List.flatMap_map]; rfl

theorem okAnswers_add (m n : Nat) : okAnswers (m + n) = okAnswers m ++ okAnswers n := by
  rw [okAnswers, List.replicate_add]; rfl

/-- A block write over any list of indices, every frame answered Ok (R168). -/
theorem Reaches.writes {sp : ConfigSpace} {op : Params → Byte}
    (hop : ∀ P c k b, frameOf P c (sp.writeCmd k b) = some (subregWriteFrame (op P) c k b))
    (ks : List (Byte × Nat))
    {s : State} {rest : List Micro} {q : List (Option Answer)} (hs : s.busFree) (hr : s.resetIn = false)
    (ha : s.agenda = ks.map (fun k => .op (sp.writeCmd (subregIndex k.2) k.1)) ++ rest)
    (hq : s.btpIn = okAnswers (2 * ks.length) ++ q) :
    Reaches s { s with agenda := rest, btpIn := q, draws := s.draws + 2 * ks.length,
                       events := s.events ++
                         ks.flatMap (fun k =>
                           subregWriteEvents s.params s.ctx (op s.params) (subregIndex k.2) k.1) } := by
  induction ks generalizing s with
  | nil =>
    simp only [List.map_nil, List.nil_append] at ha
    simp only [List.length_nil, Nat.mul_zero, okAnswers, List.replicate_zero, List.nil_append] at hq
    simpa [← ha, ← hq] using Reaches.refl s
  | cons k ks ih =>
    have hq' : s.btpIn = some (.ok []) :: some (.ok []) :: (okAnswers (2 * ks.length) ++ q) := by
      rw [hq, List.length_cons, Nat.mul_add, Nat.add_comm, okAnswers_add]; rfl
    have hw : (sp.writeCmd (subregIndex k.2) k.1).isWire = true := by cases sp <;> rfl
    have hp : (sp.writeCmd (subregIndex k.2) k.1).isPair = true := by cases sp <;> rfl
    refine (Reaches.pair hw hp (hop _ _ _ _) rfl hs hr ha hq').trans ?_
    refine (ih (s := { s with agenda := ks.map (fun k => .op (sp.writeCmd (subregIndex k.2) k.1)) ++ rest,
                              btpIn := okAnswers (2 * ks.length) ++ q, draws := s.draws + 2,
                              events := s.events ++
                                subregWriteEvents s.params s.ctx (op s.params) (subregIndex k.2) k.1 })
      hs hr rfl rfl).of_eq ?_
    simp [Nat.mul_add, Nat.add_assoc, Nat.add_comm 2]

/-- A block read over any list of indices, every frame answered with the image's byte (R167). -/
theorem Reaches.reads {sp : ConfigSpace} {op : Params → Byte}
    (hop : ∀ P c k, frameOf P c (sp.readCmd k) = some (subregReadFrame (op P) c k))
    (ks : List (Byte × Nat))
    {s : State} {rest : List Micro} {q : List (Option Answer)} (hs : s.busFree) (hr : s.resetIn = false)
    (ha : s.agenda = ks.flatMap (fun k => [.op (sp.readCmd (subregIndex k.2)), .gather]) ++ rest)
    (hq : s.btpIn = byteAnswers (ks.map (fun k => k.1)) ++ q) :
    Reaches s { s with agenda := rest, btpIn := q, draws := s.draws + ks.length,
                       rx := ((ks.map (fun k => [k.1])).getLast?).getD s.rx,
                       blk := s.blk ++ ks.map (fun k => k.1),
                       events := s.events ++
                         ks.map (fun k => sent (subregReadFrame (op s.params) s.ctx (subregIndex k.2)) [k.1]) } := by
  induction ks generalizing s with
  | nil =>
    simp only [List.flatMap_nil, List.nil_append] at ha
    simp only [List.map_nil, byteAnswers, List.nil_append] at hq
    simpa [← ha, ← hq] using Reaches.refl s
  | cons k ks ih =>
    have hw : (sp.readCmd (subregIndex k.2)).isWire = true := by cases sp <;> rfl
    have hp : (sp.readCmd (subregIndex k.2)).isPair = false := by cases sp <;> rfl
    have ha' : s.agenda = .op (sp.readCmd (subregIndex k.2)) :: .gather ::
        (ks.flatMap (fun k => [.op (sp.readCmd (subregIndex k.2)), .gather]) ++ rest) := by rw [ha]; rfl
    refine (Reaches.frame hw hp (hop _ _ _) hs hr ha' hq rfl).trans ?_
    refine (Reaches.micro (m := .gather)
      (rest := ks.flatMap (fun k => [.op (sp.readCmd (subregIndex k.2)), .gather]) ++ rest)
      (s := { s with agenda := .gather :: (ks.flatMap (fun k => [.op (sp.readCmd (subregIndex k.2)), .gather]) ++ rest),
                     btpIn := byteAnswers (ks.map (fun k => k.1)) ++ q, draws := s.draws + 1, rx := [k.1],
                     events := s.events ++ [sent (subregReadFrame (op s.params) s.ctx (subregIndex k.2)) [k.1]] })
      hr hs.1 rfl rfl).trans ?_
    refine (ih (s := { s with agenda := ks.flatMap (fun k => [.op (sp.readCmd (subregIndex k.2)), .gather]) ++ rest,
                              btpIn := byteAnswers (ks.map (fun k => k.1)) ++ q, draws := s.draws + 1,
                              rx := [k.1], blk := s.blk ++ [k.1],
                              events := s.events ++
                                [sent (subregReadFrame (op s.params) s.ctx (subregIndex k.2)) [k.1]] })
      hs hr rfl rfl).of_eq ?_
    cases ks <;> simp [List.getLast?_cons, Nat.add_assoc, Nat.add_comm]

end Sys2Proof.Machine
end

