-- ==== Sys2Proof/Laws/Steps.lean ====
section
/-! SUPPORT. What a step that gives a next state can have done, said once for every kind of step. -/

namespace Sys2Proof.Machine

open Sys2Proof

/-- The instructions are the wire commands, the host commands and the eight internal operations (R98, R104). -/
theorem instr_kinds (i : Instr) :
    i.isWire = true ∨ i.isHost = true ∨ (∃ c, i = .encodeRecord c) ∨ (∃ g, i = .decodeImage g) ∨
    (∃ w d c, i = .derive w d c) ∨ i = .busReset ∨ (∃ l v, i = .line l v) ∨ (∃ t, i = .mmSetWrite t) ∨
    (∃ t, i = .mmSetRead t) ∨ i = .mmEnable := by
  cases i <;> first
    | exact .inl rfl
    | exact .inr (.inl rfl)
    | (right; right; simp)

/-- A call `Btp!` that gives a next state was made on a free bus, and waits, fails or goes on (R155). -/
theorem btpBang_eq_next {m : Micro} {f : Frame} {onOk : List Micro} {s t : State}
    (h : onBus s (s.btpBang m f onOk) = .next t) :
    s.busFree ∧ (t = s.drewBtp.push [m] ∨ t = (s.drewBtp.emit (.btp f .fail)).raise .transport ∨
      ∃ l, l.length = f.rxLen ∧ t = ((s.drewBtp.emit (.btp f (.ok l))).received f l).push onOk) := by
  obtain ⟨h1, rfl⟩ := onBus_eq_next h
  refine ⟨h1, ?_⟩
  rcases btpBang_cases s m f onOk with ⟨_, e⟩ | ⟨_, e⟩ | ⟨l, _, hl, e⟩ <;> rw [e]
  · exact .inl rfl
  · exact .inr (.inl rfl)
  · exact .inr (.inr ⟨l, hl, rfl⟩)

/-- Everything a wire command can do (R74, R155). -/
theorem wire_eq_next {i : Instr} {s t : State} (hi : i.isWire = true) (h : exec i s = .next t) :
    s.busFree ∧ ∃ f, firstFrame s.params s.ctx i = some f ∧
      (t = s.drewBtp.push [.op i] ∨ t = (s.drewBtp.emit (.btp f .fail)).raise .transport ∨
        ∃ l, l.length = f.rxLen ∧ t = ((s.drewBtp.emit (.btp f (.ok l))).received f l).push
          (if i.isPair = true then [.second i] else [])) := by
  obtain ⟨f, hf⟩ := wire_firstFrame s.params s.ctx hi
  rw [wire_exec hi hf] at h
  obtain ⟨a, b⟩ := btpBang_eq_next h
  exact ⟨a, f, hf, b⟩

/-- Everything the second frame of a write pair can do (R74). -/
theorem secondStep_eq_next {i : Instr} {s t : State} (h : secondStep i s = .next t) :
    (frameOf s.params s.ctx i = none ∧ t = s) ∨ (s.busFree ∧ ∃ f, frameOf s.params s.ctx i = some f ∧
      (t = s.drewBtp.push [.second i] ∨ t = (s.drewBtp.emit (.btp f .fail)).raise .transport ∨
        ∃ l, l.length = f.rxLen ∧ t = ((s.drewBtp.emit (.btp f (.ok l))).received f l).push [])) := by
  unfold secondStep at h
  split at h
  · rename_i f hf
    obtain ⟨a, b⟩ := btpBang_eq_next h
    exact .inr ⟨a, f, hf, b⟩
  · rename_i hf
    exact .inl ⟨hf, (Host.Outcome.next.inj h).symm⟩

/-- Everything a memory-map call can do (R256, R259). -/
theorem issueMm_eq_next {m : Micro} {c : MmCall} {s t : State} (h : issueMm m c s = .next t) :
    s.busFree ∧ (t = s.drewMm.push [m] ∨ t = { s.drewMm.emit (.mm c .fail) with agenda := [.enterFatal] } ∨
      t = (s.drewMm.emit (.mm c .ok)).configured c) := by
  obtain ⟨h1, rfl⟩ := onBus_eq_next h
  refine ⟨h1, ?_⟩
  rcases mmBang_cases s m c with ⟨_, e⟩ | ⟨_, e⟩ | ⟨_, e⟩ <;> rw [e] <;> simp

/-- Everything a frame of the cleanup of re-provisioning can do (R229). -/
theorem issuePlain_eq_next {m : Micro} {f : Frame} {onOk onFail : List Micro} {s t : State}
    (h : issuePlain m f onOk onFail s = .next t) :
    s.busFree ∧ (t = s.drewBtp.push [m] ∨
      t = ({ s.drewBtp with err := s.err.or (some .transport) }.emit (.btp f .fail)).push onFail ∨
      ∃ l, t = (s.drewBtp.emit (.btp f (.ok l))).push onOk) := by
  obtain ⟨h1, rfl⟩ := onBus_eq_next h
  refine ⟨h1, ?_⟩
  rcases btpPlain_cases s m f onOk onFail with ⟨_, e⟩ | ⟨_, e⟩ | ⟨l, _, e⟩ <;> rw [e]
  · exact .inl rfl
  · exact .inr (.inl rfl)
  · exact .inr (.inr ⟨l, rfl⟩)

/-- A command word decodes to host commands only (R98, R106). -/
theorem isHost_of_decodeCommand {P : Params} {w : CmdWord} {i : Instr} (h : decodeCommand P w = .ok i) :
    i.isHost = true := by
  unfold decodeCommand at h
  repeat' split at h
  all_goals first
    | (cases h; rfl)
    | cases h

/-- Everything a step without hardware reset can do: nothing, take a command, serve a window access, or make the
running command's next step (R5, R64, R300). -/
theorem step_eq_next {s t : State} (hr : s.resetIn = false) (h : step s = .next t) :
    s.seq ≠ .fatal ∧
    ((s.agenda = [] ∧ t = s) ∨
     (s.agenda = [] ∧ ∃ w more i, s.inbox = .cmd w :: more ∧ decode s.params (.command w) = .ok i ∧
        exec i { s with inbox := more } = .next t) ∨
     (s.agenda = [] ∧ s.busFree ∧ ∃ more f, t = s.windowBang more f) ∨
     (∃ m rest, s.agenda = m :: rest ∧ runMicro m { s with agenda := rest } = .next t)) := by
  unfold step at h
  rw [if_neg (by simp [hr])] at h
  split at h
  · simp at h
  rename_i hf
  refine ⟨hf, ?_⟩
  split at h
  · rename_i m rest ha
    exact .inr (.inr (.inr ⟨m, rest, ha, h⟩))
  rename_i ha
  unfold serveHost at h
  split at h
  · exact .inl ⟨ha, (Host.Outcome.next.inj h).symm⟩
  · rename_i w more hi
    split at h
    · rename_i i hd
      exact .inr (.inl ⟨ha, w, more, i, hi, hd, h⟩)
    · simp at h
  all_goals
    unfold windowStep at h
    split at h
    · obtain ⟨hb, rfl⟩ := onBus_eq_next h
      exact .inr (.inr (.inl ⟨ha, hb, _, _, rfl⟩))
    · simp at h

end Sys2Proof.Machine
end

