-- ==== Sys2Proof/Tests/Slice0.lean ====
section
/-! SUPPORT. Tests of the model, and a witness for the hypotheses of every statement that has some. Expected values come
from spec/95_test_vectors.md or are written from the tables of spec/30_encoding.md; the comment names the source. -/

namespace Sys2Proof.Tests

open Sys2Proof Sys2Proof.Machine

/-! ## Helpers -/

/-- The default parameters (00_scope.md R7). -/
abbrev P : Params := Config.params

/-- An answer Ok with received bytes. -/
def ok (rx : List Byte) : Option Answer := some (.ok rx)

/-- The answer Fail. -/
def fail : Option Answer := some .fail

/-- Other parameters: a single instruction line at every width (95_test_vectors.md B2 row 14), no width 8, the
`MAINT_KEY` of section 0. -/
def PX : Params :=
  { P with instrLines := { two := .one, four := .one, eight := .one }, widths := [1, 2, 4], maintKey := 0xA5 }

/-- Parameters with a longer image and another maintenance sub-register. -/
def PL : Params := { P with regBlockLen := 11, maintSubreg := 300 }

/-- The contexts of 95_test_vectors.md section 0. -/
def Q16 : Ctx :=
  { ilm := .four, alm := .four, dlm := .four, abw := .bits24, rop := .quad, wop := .quad, dcd := 16, dcc := 0 }

def O16 : Ctx :=
  { ilm := .eight, alm := .eight, dlm := .eight, abw := .bits24, rop := .octal, wop := .octalExt, dcd := 16, dcc := 8 }

def OD32 : Ctx :=
  { ilm := .eight, alm := .eight, dlm := .eight, abw := .bits32, rop := .octalDtr, wop := .octalExt, dcd := 16,
    dcc := 8 }

/-- The example record `CQ` of 95_test_vectors.md section 0. -/
def CQ : Record :=
  { ifMode := 0xFD, dummy := 0x10, drv := 0xFF, strobe := 0xFF, addrMode := 0xFF, xip := 0xFF, wrap := 0xFF,
    erasePol := true, otpLock := true, rstPin := true, wrMode := false }

/-- A record with the bytes in the order of 95_test_vectors.md B1. -/
def rec (a b c d e f g : Byte) (p q r s : Bool) : Record :=
  { ifMode := a, dummy := b, drv := c, strobe := d, addrMode := e, xip := f, wrap := g, erasePol := p, otpLock := q,
    rstPin := r, wrMode := s }

/-- An idle block in READY under a context, with scripted answers. -/
def ready (c : Ctx) (answers : List (Option Answer)) : State :=
  { State.reset with ctx := c, seq := .ready, btpIn := answers }

/-- A block in the middle of `initialize(CQ, 4)`. -/
def midInit (q : Seq) (c : Ctx) (agenda : List Micro) (answers : List (Option Answer)) : State :=
  { State.reset with ctx := c, seq := q, cmd := some (.init CQ 4 false), agenda := agenda, btpIn := answers }

/-- A block in the middle of `reProvision()`. -/
def midReprov (open_ : Bool) (e : Option Failure) (agenda : List Micro) (answers : List (Option Answer)) : State :=
  { ready Q16 answers with privWin := open_, err := e, cmd := some .reprov, agenda := agenda }

/-- A frame as 95_test_vectors.md writes it: opcode and line count, then the phases. -/
def frm (op : Byte) (il : LineCount) (a : Option AddrPhase) (d : Byte) (data : Option DataPhase) : Frame :=
  { instr := op, ilines := il, addr := a, dummy := d, data := data }

/-- `A(a)/aw@al`. -/
def A (a : Address) (aw : AddrWidth) (al : LineCount) : Option AddrPhase :=
  some { addr := a, alines := al, awidth := aw }

/-- The events of an outcome. -/
def eventsOf : Out → Option (List Event)
  | .next s => some s.events
  | _ => none

/-- The next state of an outcome, looked at. -/
def look {α : Type} (f : State → α) : Out → Option α
  | .next s => some (f s)
  | _ => none

/-- The state `n` steps after an instruction, looked at. -/
def after {α : Type} (n : Nat) (f : State → α) (i : Instr) (s : State) : Option α :=
  match exec i s with
  | .next t => look f (run n t)
  | _ => none

/-- The events of a host command run to its end. -/
def hostEvents (n : Nat) (i : Instr) (s : State) : Option (List Event) := after n State.events i s

/-! ## WellFormed: every check refuses an ill-formed term -/

theorem test_wf_rdnvcr : Instr.wf P (.rdnvcr 9) = false := by decide
theorem test_wf_wrnvcr : Instr.wf P (.wrnvcr 9 0) = false := by decide
theorem test_wf_rdvcr : Instr.wf P (.rdvcr 9) = false := by decide
theorem test_wf_wrvcr : Instr.wf P (.wrvcr 0x102 0) = false := by decide
theorem test_wf_decodeImage : Instr.wf P (.decodeImage [0, 1]) = false := by decide
theorem test_wf_init_width : Instr.wf P (.init CQ 16 false) = false := by decide
theorem test_wf_derive_width : Instr.wf P (.derive 16 false CQ) = false := by decide
theorem test_wf_poll : Instr.wf P (.poll 0x100000000) = false := by decide
theorem test_wf_reserved : Instr.wf P (.reservedCmd 0x0A) = false := by decide
theorem test_wf_set_write : Instr.wf P (.mmSetWrite (readTemplate P Q16)) = false := by decide
theorem test_wf_set_read : Instr.wf P (.mmSetRead (writeTemplate P Q16)) = false := by decide
theorem test_wf_length (v : List Byte) (h : v.length = 2 ^ 32) :
    (Instr.writeStd 0 v).wf P = false ∧ (Instr.writeDual 0 v).wf P = false ∧ (Instr.writeQuad 0 v).wf P = false ∧
    (Instr.writeOctalExt 0 v).wf P = false ∧ (Instr.write 0 v).wf P = false := by
  simp only [Instr.wf, lengthFits, h]
  decide

/-! ## Decoding: words written from 30_encoding.md R104 (frames), R98 and R99 (command words), R107, R109 -/

theorem test_decode_bare :
    decode P (.wire (frm 0x06 .four none 0 none)) = .ok .wren ∧
    decode P (.wire (frm 0x04 .one none 0 none)) = .ok .wrdi ∧
    decode P (.wire (frm 0x50 .one none 0 none)) = .ok .clfsr ∧
    decode P (.wire (frm 0xC7 .eight none 0 none)) = .ok .eraseChipFrame := ⟨rfl, rfl, rfl, rfl⟩

theorem test_decode_register_reads :
    decode P (.wire (frm 0x05 .eight none 8 (some (.recv .eight 1)))) = .ok .rdsr ∧
    decode P (.wire (frm 0x70 .one none 0 (some (.recv .one 1)))) = .ok .rdfsr ∧
    decode P (.wire (frm 0x9F .one none 0 (some (.recv .one 3)))) = .ok .rdid ∧
    decode P (.wire (frm 0xB5 .one (A 5 .bits24 .one) 0 (some (.recv .one 1)))) = .ok (.rdnvcr 5) ∧
    decode P (.wire (frm 0x85 .eight (A 8 .bits32 .eight) 8 (some (.recv .eight 1)))) = .ok (.rdvcr 8) :=
  ⟨rfl, rfl, rfl, rfl, rfl⟩

theorem test_decode_register_writes :
    decode P (.wire (frm 0x01 .one none 0 (some (.send .one [0x7F])))) = .ok (.wrsr 0x7F) ∧
    decode P (.wire (frm 0xB1 .one (A 1 .bits24 .one) 0 (some (.send .one [0x10])))) = .ok (.wrnvcr 1 0x10) ∧
    decode P (.wire (frm 0x81 .eight (A 8 .bits32 .eight) 0 (some (.send .eight [0x86])))) = .ok (.wrvcr 8 0x86) :=
  ⟨rfl, rfl, rfl⟩

theorem test_decode_array_reads :
    decode P (.wire (frm 0x0B .one (A 0x1000 .bits24 .one) 8 (some (.recv .one 4)))) = .ok (.readFast 0x1000 4) ∧
    decode P (.wire (frm 0x3B .two (A 0x1000 .bits24 .two) 6 (some (.recv .two 4)))) = .ok (.readDual 0x1000 4) ∧
    decode P (.wire (frm 0x6B .four (A 0x1000 .bits24 .four) 16 (some (.recv .four 4)))) = .ok (.readQuad 0x1000 4) ∧
    decode P (.wire (frm 0x8B .eight (A 0x1000 .bits24 .eight) 16 (some (.recv .eight 0)))) =
      .ok (.readOctal 0x1000 0) ∧
    decode P (.wire (frm 0x9D .eight (A 0x1000 .bits32 .eight) 16 (some (.recv .eight 4)))) =
      .ok (.readOctalDtr 0x1000 4) := ⟨rfl, rfl, rfl, rfl, rfl⟩

theorem test_decode_array_writes :
    decode P (.wire (frm 0x02 .one (A 0x10 .bits24 .one) 0 (some (.send .one [0xDE, 0xAD])))) =
      .ok (.writeStd 0x10 [0xDE, 0xAD]) ∧
    decode P (.wire (frm 0xA2 .two (A 0x10 .bits24 .two) 0 (some (.send .two [])))) = .ok (.writeDual 0x10 []) ∧
    decode P (.wire (frm 0x32 .four (A 0x10 .bits24 .four) 0 (some (.send .four [0xDE, 0xAD])))) =
      .ok (.writeQuad 0x10 [0xDE, 0xAD]) ∧
    decode P (.wire (frm 0xC2 .eight (A 0x10 .bits32 .eight) 0 (some (.send .eight [0xDE, 0xAD])))) =
      .ok (.writeOctalExt 0x10 [0xDE, 0xAD]) := ⟨rfl, rfl, rfl, rfl⟩

/-- The command words of 95_test_vectors.md P1 to P7, and one for each other code of R98. -/
theorem test_decode_commands :
    decode P (.command { CmdWord.ofCode 0x00 with w := 0b1000, dtr := true, cfg := CQ }) = .ok (.init CQ 8 true) ∧
    decode P (.command (CmdWord.ofCode 0x01)) = .ok .reprov ∧
    decode P (.command { CmdWord.ofCode 0x02 with address := 0x10, length := 2 }) = .ok (.read 0x10 2) ∧
    decode P (.command { CmdWord.ofCode 0x03 with address := 0x10, length := 2, wdata := [0xDE, 0xAD] }) =
      .ok (.write 0x10 [0xDE, 0xAD]) ∧
    decode P (.command (CmdWord.ofCode 0x04)) = .ok .eraseChip ∧
    decode P (.command (CmdWord.ofCode 0x05)) = .ok .readId ∧
    decode P (.command (CmdWord.ofCode 0x06)) = .ok .readStatus ∧
    decode P (.command (CmdWord.ofCode 0x07)) = .ok .readFlags ∧
    decode P (.command (CmdWord.ofCode 0x08)) = .ok .clearFlags ∧
    decode P (.command { CmdWord.ofCode 0x09 with timeout := 5 }) = .ok (.poll 5) ∧
    decode P (.command (CmdWord.ofCode 0x0A)) = .ok .mmap ∧
    decode P (.command (CmdWord.ofCode 0x0B)) = .ok (.reservedCmd 0x0B) ∧
    decode P (.command (CmdWord.ofCode 0xFF)) = .ok (.reservedCmd 0xFF) :=
  ⟨rfl, rfl, rfl, rfl, rfl, rfl, rfl, rfl, rfl, rfl, rfl, rfl, rfl⟩

theorem test_decode_port_calls :
    decode P (.lineStep .cs true) = .ok (.line .cs true) ∧
    decode P (.mmCall (.setWrite (writeTemplate P Q16))) = .ok (.mmSetWrite (writeTemplate P Q16)) ∧
    decode P (.mmCall (.setRead (readTemplate P Q16))) = .ok (.mmSetRead (readTemplate P Q16)) ∧
    decode P (.mmCall (.enable true P.mmTimeoutPeriod)) = .ok .mmEnable := by
  refine ⟨rfl, rfl, rfl, ?_⟩
  simp [decode, decodeMmCall]

/-- A maintenance sub-register whose index is more than eight bits wide (notes/assumptions/31.md). -/
theorem test_decode_wide_index :
    decode PL (.wire (frm 0x81 .one (A 300 .bits24 .one) 0 (some (.send .one [0xA5])))) = .ok (.wrvcr 300 0xA5) := rfl

theorem test_decode_refusals :
    decode P (.wire (frm 0x00 .one none 0 none)) = .error .unknownOpcode ∧
    decode P (.wire (frm 0x06 .one (A 0 .bits24 .one) 0 none)) = .error .wrongShape ∧
    decode P (.wire (frm 0x9F .one none 0 (some (.recv .one 2)))) = .error .wrongShape ∧
    decode P (.wire (frm 0x85 .one (A 9 .bits24 .one) 0 (some (.recv .one 1)))) = .error .badSubregister ∧
    decode P (.wire (frm 0xB1 .one (A 0x100 .bits24 .one) 0 (some (.send .one [0])))) = .error .badSubregister ∧
    decode P (.command { CmdWord.ofCode 0x03 with length := 1 }) = .error .wrongLength ∧
    decode P (.mmCall (.setRead (writeTemplate P Q16))) = .error .wrongMmCall := ⟨rfl, rfl, rfl, rfl, rfl, rfl, rfl⟩

theorem test_table_words :
    decodeTableWord 8 0x00 = some (.init (rec 0 0 0 0 0 0 0 false false false false) 0 false) ∧
    decodeTableWord 8 0x05 = some .readId ∧ decodeTableWord 8 0x0A = some .mmap ∧
    decodeTableWord 8 0x9F = some .rdid ∧ decodeTableWord 8 0x0B = some (.readFast 0 0) ∧
    decodeTableWord 8 0xC2 = some (.writeOctalExt 0 []) ∧ decodeTableWord 8 0xFF = some (.reservedCmd 0xFF) ∧
    decodeTableWord 16 0x9F = none ∧ decodeTableWord 8 0x100 = none :=
  ⟨rfl, rfl, rfl, rfl, rfl, rfl, rfl, rfl, rfl⟩

/-! ## Register Codec: 95_test_vectors.md B1 -/

theorem test_encode_row3 :
    encodeImage P (rec 0xFF 0x10 0xFF 0xFF 0xFF 0xFF 0xFF true true true false) =
      [0xFF, 0x10, 0xFF, 0xFF, 0xFF, 0xFF, 0xFF, 0xFF, 0x86] := by decide

theorem test_encode_row5 :
    encodeImage P (rec 1 2 3 4 5 6 7 false true false true) = [1, 2, 0xFF, 3, 4, 5, 6, 7, 5] := by decide

theorem test_decode_row13 :
    decodeRecord [1, 2, 0, 3, 4, 5, 6, 7, 0x7D] = rec 1 2 3 4 5 6 7 false true false true := by decide

theorem test_packed_rows7_12 :
    packedByte (rec 0 0 0 0 0 0 0 true false false false) = 0x80 ∧
    packedByte (rec 0 0 0 0 0 0 0 false true false false) = 0x04 ∧
    packedByte (rec 0 0 0 0 0 0 0 false false true false) = 0x02 ∧
    packedByte (rec 0 0 0 0 0 0 0 false false false true) = 0x01 ∧
    packedByte (rec 0 0 0 0 0 0 0 true false true true) = 0x83 := by decide

/-- A longer image goes on with `RESERVED_BYTE` (notes/assumptions/32.md). -/
theorem test_encode_longer : encodeImage PL CQ = encodeImage P CQ ++ [0xFF, 0xFF] := by decide

theorem test_images_row14 : (nvImage P CQ)[8]? = some 0x82 ∧ (vImage P CQ)[8]? = some 0x86 := by decide

/-! ## Mode Context derivation: 95_test_vectors.md B2 -/

theorem test_derive_row1 : deriveCtx P 1 false { CQ with dummy := 8 } = some (ctxDefault P) := by decide
theorem test_derive_row3 :
    (deriveCtx P 1 false { CQ with dummy := 0, addrMode := 0 }).map Ctx.abw = some .bits32 := by decide
theorem test_derive_row4 :
    deriveCtx P 2 false { CQ with dummy := 6 } =
      some { ilm := .two, alm := .two, dlm := .two, abw := .bits24, rop := .dual, wop := .dual, dcd := 6,
             dcc := 0 } := by
  decide
theorem test_derive_row5 : deriveCtx P 4 false CQ = some Q16 := by decide
theorem test_derive_row7 : deriveCtx P 8 false CQ = some O16 := by decide
theorem test_derive_row10 : deriveCtx P 8 true { CQ with addrMode := 1 } = some OD32 := by decide
theorem test_derive_rows11_13 :
    [0, 3, 5, 6, 7, 9, 15, 16].map (fun w => deriveCtx P w false CQ) = List.replicate 8 none := by decide
theorem test_derive_row14 : deriveCtx PX 4 false CQ = some { Q16 with ilm := .one } := by decide

/-! ## Wire commands: 95_test_vectors.md B3, frames under `OD32` or `Q16` -/

theorem test_wren : eventsOf (exec .wren (ready Q16 [ok []])) = some [sent (frm 0x06 .four none 0 none) []] := rfl
theorem test_wrdi : eventsOf (exec .wrdi (ready Q16 [ok []])) = some [sent (frm 0x04 .four none 0 none) []] := rfl
theorem test_rdsr :
    eventsOf (exec .rdsr (ready OD32 [ok [0x80]])) =
      some [sent (frm 0x05 .eight none 8 (some (.recv .eight 1))) [0x80]] :=
  rfl
theorem test_wrsr :
    look (fun t => eventsOf (step t)) (exec (.wrsr 0x7F) (ready OD32 [ok [], ok []])) =
      some (some [sent (frm 0x06 .eight none 0 none) [],
        sent (frm 0x01 .eight none 0 (some (.send .eight [0x7F]))) []]) :=
  rfl
theorem test_rdfsr :
    eventsOf (exec .rdfsr (ready OD32 [ok [0]])) =
      some [sent (frm 0x70 .eight none 8 (some (.recv .eight 1))) [0]] := rfl
theorem test_clfsr : eventsOf (exec .clfsr (ready OD32 [ok []])) = some [sent (frm 0x50 .eight none 0 none) []] := rfl
theorem test_rdid :
    eventsOf (exec .rdid (ready OD32 [ok [1, 2, 3]])) =
      some [sent (frm 0x9F .eight none 8 (some (.recv .eight 3))) [1, 2, 3]] := rfl
theorem test_rdnvcr :
    eventsOf (exec (.rdnvcr 5) (ready OD32 [ok [1]])) =
      some [sent (frm 0xB5 .eight (A 5 .bits32 .eight) 8 (some (.recv .eight 1))) [1]] := rfl
theorem test_wrnvcr :
    look (fun t => eventsOf (step t)) (exec (.wrnvcr 1 0x10) (ready Q16 [ok [], ok []])) =
      some (some [sent (frm 0x06 .four none 0 none) [],
        sent (frm 0xB1 .four (A 1 .bits24 .four) 0 (some (.send .four [0x10]))) []]) := rfl
theorem test_rdvcr :
    eventsOf (exec (.rdvcr 8) (ready Q16 [ok [1]])) =
      some [sent (frm 0x85 .four (A 8 .bits24 .four) 0 (some (.recv .four 1))) [1]] := rfl
theorem test_wrvcr :
    look (fun t => eventsOf (step t)) (exec (.wrvcr 8 0x86) (ready OD32 [ok [], ok []])) =
      some (some [sent (frm 0x06 .eight none 0 none) [],
        sent (frm 0x81 .eight (A 8 .bits32 .eight) 0 (some (.send .eight [0x86]))) []]) := rfl
theorem test_eraseChipFrame :
    eventsOf (exec .eraseChipFrame (ready Q16 [ok []])) = some [sent (frm 0xC7 .four none 0 none) []] := rfl

/-- B3 row 12 under `CTX_DEFAULT`, `Q16` and `OD32`, and the opcodes of the two other reads. -/
theorem test_array_reads :
    eventsOf (exec (.readFast 0x1000 1) (ready (ctxDefault P) [ok [9]])) =
      some [sent (frm 0x0B .one (A 0x1000 .bits24 .one) 8 (some (.recv .one 1))) [9]] ∧
    eventsOf (exec (.readDual 0x1000 1) (ready (ctxDefault P) [ok [9]])) =
      some [sent (frm 0x3B .one (A 0x1000 .bits24 .one) 8 (some (.recv .one 1))) [9]] ∧
    eventsOf (exec (.readQuad 0x1000 1) (ready Q16 [ok [9]])) =
      some [sent (frm 0x6B .four (A 0x1000 .bits24 .four) 16 (some (.recv .four 1))) [9]] ∧
    eventsOf (exec (.readOctal 0x1000 1) (ready O16 [ok [9]])) =
      some [sent (frm 0x8B .eight (A 0x1000 .bits24 .eight) 16 (some (.recv .eight 1))) [9]] ∧
    eventsOf (exec (.readOctalDtr 0x1000 1) (ready OD32 [ok [9]])) =
      some [sent (frm 0x9D .eight (A 0x1000 .bits32 .eight) 16 (some (.recv .eight 1))) [9]] :=
  ⟨rfl, rfl, rfl, rfl, rfl⟩

/-- B3 row 13: the second frame of each array write. -/
theorem test_array_writes :
    after 1 (fun t => t.events.drop 1) (.writeStd 0x10 [0xDE]) (ready (ctxDefault P) [ok [], ok []]) =
      some [sent (frm 0x02 .one (A 0x10 .bits24 .one) 0 (some (.send .one [0xDE]))) []] ∧
    after 1 (fun t => t.events.drop 1) (.writeDual 0x10 [0xDE]) (ready (ctxDefault P) [ok [], ok []]) =
      some [sent (frm 0xA2 .one (A 0x10 .bits24 .one) 0 (some (.send .one [0xDE]))) []] ∧
    after 1 (fun t => t.events.drop 1) (.writeQuad 0x10 [0xDE]) (ready Q16 [ok [], ok []]) =
      some [sent (frm 0x32 .four (A 0x10 .bits24 .four) 0 (some (.send .four [0xDE]))) []] ∧
    after 1 (fun t => t.events.drop 1) (.writeOctalExt 0x10 [0xDE]) (ready OD32 [ok [], ok []]) =
      some [sent (frm 0xC2 .eight (A 0x10 .bits32 .eight) 0 (some (.send .eight [0xDE]))) []] :=
  ⟨rfl, rfl, rfl, rfl⟩

/-- A failed WREN: the write frame is not issued (42_protocol_ops.md R170). -/
theorem test_failed_pair :
    after 2 (fun t => (t.events, t.agenda)) (.wrsr 0) (ready Q16 [fail, ok []]) =
      some ([.btp (frm 0x06 .four none 0 none) .fail, .rsp .transport []], []) := rfl

/-! ## Host commands: 95_test_vectors.md B3 rows 15 to 22, P2, P5 -/


theorem test_readStatus_row15 :
    hostEvents 3 .readStatus (ready Q16 [ok [0x83]]) =
      some [.cmd .readStatus, sent (frm 0x05 .four none 0 (some (.recv .four 1))) [0x83], .rsp .ok [0x83]] := rfl
theorem test_readFlags_row16 :
    hostEvents 3 .readFlags (ready Q16 [fail]) =
      some [.cmd .readFlags, .btp (frm 0x70 .four none 0 (some (.recv .four 1))) .fail, .rsp .transport []] := rfl
theorem test_clearFlags_row17 :
    hostEvents 3 .clearFlags (ready Q16 [ok []]) =
      some [.cmd .clearFlags, sent (frm 0x50 .four none 0 none) [], .rsp .ok []] := rfl
theorem test_readId_row22 :
    hostEvents 3 .readId { State.reset with btpIn := [ok [0, 0, 0]] } =
      some [.cmd .readId, sent (frm 0x9F .one none 0 (some (.recv .one 3))) [0, 0, 0], .rsp .ok [0, 0, 0]] := rfl
theorem test_write_row20 :
    hostEvents 4 (.write 0x10 [0xDE, 0xAD]) (ready Q16 [ok [], fail]) =
      some [.cmd (.write 0x10 [0xDE, 0xAD]), sent (frm 0x06 .four none 0 none) [],
        .btp (frm 0x32 .four (A 0x10 .bits24 .four) 0 (some (.send .four [0xDE, 0xAD]))) .fail,
          .rsp .transport []] := rfl
theorem test_read_row21 :
    hostEvents 3 (.read 0x10 0) (ready Q16 [ok []]) =
      some [.cmd (.read 0x10 0), sent (frm 0x6B .four (A 0x10 .bits24 .four) 16 (some (.recv .four 0))) [],
        .rsp .ok []] := rfl
/-- P3, the second command. -/
theorem test_poll_infinite :
    hostEvents 4 (.poll 0xFFFFFFFF) (ready Q16 [ok [0x80]]) =
      some [.cmd (.poll 0xFFFFFFFF), sent (frm 0x70 .four none 0 (some (.recv .four 1))) [0x80], .rsp .ok []] := rfl
/-- B4: the tick counter wraps; elapsed 6 is more than the bound 5 (45_poll_erase.md R244). -/
theorem test_poll_wrap :
    hostEvents 8 (.poll 5) { ready Q16 [ok [0]] with tickIn := [0xFFFFFFFE, 4] } =
      some [.cmd (.poll 5), .tick 0xFFFFFFFE, sent (frm 0x70 .four none 0 (some (.recv .four 1))) [0], .tick 4,
        .rsp .timeout []] := rfl
/-- P3, the first command with no wait. -/
theorem test_eraseChip :
    hostEvents 6 .eraseChip (ready Q16 [ok [], ok [], ok [0x80]]) =
      some [.cmd .eraseChip, sent (frm 0x06 .four none 0 none) [], sent (frm 0xC7 .four none 0 none) [],
        sent (frm 0x70 .four none 0 (some (.recv .four 1))) [0x80], .rsp .ok []] := rfl
/-- P5: the memory-map setup fails at the second call. -/
theorem test_mmap_fails :
    hostEvents 2 .mmap { State.reset with mmIn := [some .ok, some .fail] } =
      some [.cmd .mmap,
        .mm (.setWrite { instr := 0x02, ilines := .one, alines := .one, awidth := .bits24, dummy := 0, dlines := .one,
                         dir := .dirOut }) .ok,
        .mm (.setRead { instr := 0x0B, ilines := .one, alines := .one, awidth := .bits24, dummy := 8, dlines := .one,
                        dir := .dirIn }) .fail] := rfl
/-- P5: an illegal width. -/
theorem test_init_illegal_width :
    after 3 (fun t => (t.seq, t.res, t.events)) (.init CQ 3 false) State.reset =
      some (.error, .config, [.cmd (.init CQ 3 false), .rsp .config []]) := rfl
/-- `initialize` begins with the bus reset (43_bringup.md R202). -/
theorem test_init_begins :
    after 1 (fun t => (t.seq, t.agenda.head?)) (.init CQ 4 false) State.reset =
      some (.reset, some (.op .busReset)) := rfl
/-- P6: `reProvision` begins with CLFSR. -/
theorem test_reprov_begins :
    look (fun t => (t.seq, t.agenda.head?)) (exec .reprov (ready Q16 [])) = some (.ready, some (.op .clfsr)) := rfl
/-- 95_test_vectors.md section 0, P6: the maintenance key goes to `MAINT_SUBREG` under the entry context. -/
theorem test_reprov_key :
    after 5 (fun t => t.events.drop 3) .reprov { ready Q16 [ok [], ok [], ok [], ok []] with params := PX } =
      some [sent (frm 0x06 .four none 0 none) [],
        sent (frm 0x81 .four (A 2 .bits24 .four) 0 (some (.send .four [0xA5]))) []] := rfl
theorem test_reserved : after 2 (fun t => t.res) (.reservedCmd 0x0B) State.reset = some .config := rfl
theorem test_busReset : eventsOf (exec .busReset State.reset) = some [.busDeinit] := rfl
theorem test_line :
    eventsOf (exec (.line .clk true) { State.reset with pinOwner := .seq }) = some [.line .clk true] := rfl

/-! ## The table's words run as the first instruction after reset -/

theorem test_fetch_readStatus :
    eventsOf (step (State.reset.withFetchWord 8 0x06)) = some [.cmd .readStatus] := rfl
theorem test_fetch_wire :
    eventsOf (step ({ State.reset with btpIn := [ok [1, 2, 3]] }.withFetchWord 8 0x9F)) =
      some [sent (frm 0x9F .one none 0 (some (.recv .one 3))) [1, 2, 3]] := rfl

/-! ## Witnesses: one for the hypotheses of each statement that has some, each clause, boundary values among them -/

theorem witness_EncodeGivesTheImage : State.reset.params.regBlockLen = 9 := rfl

/-- Nine bytes, and a longer image. -/
theorem witness_CodecLaws :
    P.regBlockLen = 9 ∧ 9 ≤ PL.regBlockLen ∧ 8 < PL.regBlockLen ∧ PL.regBlockLen ≠ 9 ∧
    ({ CQ with otpLock := false } : Record).otpLock = false ∧
    ([1, 2, 0, 3, 4, 5, 6, 7, 0x7D] : Image).length = 9 := by decide

theorem witness_BringupImagesDifferInOtpLockOnly :
    P.regBlockLen = 9 ∧ ({ CQ with otpLock := false } : Record).otpLock = false := by decide

theorem witness_PackedByteIsBitExact : P.regBlockLen = 9 := rfl

theorem witness_BareCommandsIssueTheOpcode :
    (Instr.eraseChipFrame, P.op.eraseChip) ∈ [(Instr.wren, P.op.wren), (.wrdi, P.op.wrdi), (.clfsr, P.op.clfsr),
      (.eraseChipFrame, P.op.eraseChip)] ∧
    (ready Q16 [ok []]).busFree ∧ (ready Q16 [ok []]).btpIn = some (.ok []) :: [] ∧
    (ready Q16 [fail]).busFree ∧ (ready Q16 [fail]).btpIn = some .fail :: [] ∧ (ready Q16 [fail]).resetIn = false ∧
    isInit (ready Q16 [fail]).cmd = false ∧ (ready Q16 [fail]).cmd ≠ some .reprov ∧
    isInit (some .clearFlags) = false ∧ some Instr.clearFlags ≠ some .reprov := by decide

theorem witness_RegisterReadsKeepTheBytes :
    (ready Q16 [ok [7]]).busFree ∧ (ready Q16 [ok [7]]).btpIn = some (.ok [7]) :: [] ∧
    [(7 : Byte)].length = (1 : Length).toNat ∧
    (ready OD32 [ok [1, 2, 3]]).btpIn = some (.ok [1, 2, 3]) :: [] ∧ [(1 : Byte), 2, 3].length = P.idLen.toNat := by
  decide

theorem witness_SubregisterReadsKeepTheByte :
    (ready OD32 [ok [7]]).busFree ∧ (ready OD32 [ok [7]]).btpIn = some (.ok [7]) :: [] := by decide

/-- A read of no byte and one of four. -/
theorem witness_ArrayReadsAreOneFrame :
    (ready Q16 [ok []]).busFree ∧ (ready Q16 [ok []]).btpIn = some (.ok []) :: [] ∧
    ([] : List Byte).length = (0 : Length).toNat ∧
    (ready Q16 [ok [1, 2, 3, 4]]).btpIn = some (.ok [1, 2, 3, 4]) :: [] ∧
    [(1 : Byte), 2, 3, 4].length = (4 : Length).toNat := by decide

theorem witness_RegisterWritesArePairs :
    (ready OD32 [ok [], ok []]).busFree ∧ (ready OD32 [ok [], ok []]).resetIn = false ∧
    (ready OD32 [ok [], ok []]).btpIn = some (.ok []) :: some (.ok []) :: [] := by decide

theorem witness_ArrayWritesArePairs :
    (ready Q16 [ok [], ok []]).busFree ∧ (ready Q16 [ok [], ok []]).resetIn = false ∧
    (ready Q16 [ok [], ok []]).btpIn = some (.ok []) :: some (.ok []) :: [] := by decide

/-- Outside both sequences, inside `initialize`, inside `reProvision`; one frame and a pair. -/
theorem witness_FailedFrameRaisesTransport :
    Instr.rdsr.isWire = true ∧ firstFrame P Q16 .rdsr = some (regReadFrame 0x05 Q16 1) ∧
    (Instr.wrsr 0).isWire = true ∧ firstFrame P Q16 (.wrsr 0) = some (bareFrame 0x06 Q16) ∧
    (ready Q16 [fail]).busFree ∧ (ready Q16 [fail]).btpIn = some .fail :: [] ∧
    (ready Q16 [fail]).cmd ≠ some .reprov ∧ (ready Q16 [fail]).resetIn = false ∧
    (midInit .verifyStatus Q16 [] [fail]).busFree ∧ isInit (midInit .verifyStatus Q16 [] [fail]).cmd = true ∧
    (midInit .verifyStatus Q16 [] [fail]).btpIn = some .fail :: [] ∧
    (midReprov true none [] [fail]).busFree ∧ (midReprov true none [] [fail]).cmd = some .reprov ∧
    (midReprov true none [] [fail]).btpIn = some .fail :: [] := by decide

/-- Inside `initialize`, inside `reProvision` and in a host write. -/
theorem witness_FailedSecondFrameRaisesTransport :
    (midInit .verifyStatus Q16 [.second (.wrsr 0), .op .rdsr] [fail]).agenda = .second (.wrsr 0) :: [.op .rdsr] ∧
    (Instr.wrsr 0).isPair = true ∧ frameOf P Q16 (.wrsr 0) = some (regWriteFrame 0x01 Q16 0) ∧
    (midInit .verifyStatus Q16 [.second (.wrsr 0), .op .rdsr] [fail]).busFree ∧
    (midInit .verifyStatus Q16 [.second (.wrsr 0), .op .rdsr] [fail]).resetIn = false ∧
    (midInit .verifyStatus Q16 [.second (.wrsr 0), .op .rdsr] [fail]).cmd ≠ some .reprov ∧
    (midInit .verifyStatus Q16 [.second (.wrsr 0), .op .rdsr] [fail]).btpIn = some .fail :: [] ∧
    (midReprov true none [.second (.wrsr 0), .op .rdsr] [fail]).agenda = .second (.wrsr 0) :: [.op .rdsr] ∧
    (midReprov true none [.second (.wrsr 0), .op .rdsr] [fail]).cmd = some .reprov ∧
    (midReprov true none [.second (.wrsr 0), .op .rdsr] [fail]).busFree ∧
    (midReprov true none [.second (.wrsr 0), .op .rdsr] [fail]).resetIn = false ∧
    (midReprov true none [.second (.wrsr 0), .op .rdsr] [fail]).btpIn = some .fail :: [] ∧
    (Instr.writeQuad 1 []).isPair = true ∧ frameOf P Q16 (.writeQuad 1 []) = some (arrayWriteFrame 0x32 Q16 1 []) ∧
    ({ ready Q16 [fail] with cmd := some (.write 1 []) } : State).cmd ≠ some .reprov := by decide

theorem witness_UnansweredCallWaits :
    Instr.wren.isWire = true ∧ (ready Q16 [none]).busFree ∧ (ready Q16 [none]).btpIn = none :: [] := by decide

/-- With an answer, and past the end of the script. -/
theorem witness_WireCommandsWriteNoRegister :
    Instr.rdid.isWire = true ∧ (ready Q16 [ok [1, 2, 3]]).busFree ∧ State.reset.busFree := by decide

theorem witness_HostReadReturnsTheBytes :
    (ready Q16 [ok []]).quiet ∧ (ready Q16 [ok []]).btpIn = some (.ok []) :: [] ∧
    ([] : List Byte).length = (0 : Length).toNat ∧
    (ready OD32 [ok [0x11, 0x22]]).quiet ∧ (ready OD32 [ok [0x11, 0x22]]).btpIn = some (.ok [0x11, 0x22]) :: [] ∧
    [(0x11 : Byte), 0x22].length = (2 : Length).toNat := by decide

theorem witness_HostWriteIssuesThePair :
    (ready Q16 [ok [], ok []]).quiet ∧ (ready Q16 [ok [], ok []]).btpIn = some (.ok []) :: some (.ok []) :: [] := by
  decide

theorem witness_HostWriteStopsAtTheFailedFrame :
    (ready Q16 [fail]).quiet ∧ (ready Q16 [fail]).btpIn = some .fail :: [] ∧
    (ready Q16 [ok [], fail]).quiet ∧ (ready Q16 [ok [], fail]).btpIn = some (.ok []) :: some .fail :: [] := by decide

theorem witness_RegisterCommandsRespondWithTheBytes :
    (ready Q16 [ok [0x83]]).quiet ∧ (ready Q16 [ok [0x83]]).btpIn = some (.ok [0x83]) :: [] ∧
    [(0x83 : Byte)].length = (1 : Length).toNat ∧
    (ready Q16 [ok [0x6B, 0xBB, 0x17]]).quiet ∧
    (ready Q16 [ok [0x6B, 0xBB, 0x17]]).btpIn = some (.ok [0x6B, 0xBB, 0x17]) :: [] ∧
    [(0x6B : Byte), 0xBB, 0x17].length = P.idLen.toNat := by decide

theorem witness_ClearFlagsIssuesOneFrame :
    (ready Q16 [ok []]).quiet ∧ (ready Q16 [ok []]).btpIn = some (.ok []) :: [] := by decide

/-- After reset and in READY; the least and the greatest operands, widths between the legal ones, and a legal one that
other parameters leave out. -/
theorem witness_CommandsThatEndWithoutAPortCall :
    State.reset.seq ≠ .fatal ∧ State.reset.busy = false ∧ State.reset.resetIn = false ∧
    (ready Q16 []).seq ≠ .fatal ∧ (ready Q16 []).busy = false ∧ (ready Q16 []).resetIn = false ∧
    0 ∉ [1, 2, 4, 8] ∧ 3 ∉ [1, 2, 4, 8] ∧ 9 ∉ [1, 2, 4, 8] ∧ 16 ∉ [1, 2, 4, 8] ∧
    ({ State.reset with params := PX } : State).seq ≠ .fatal ∧ 8 ∉ PX.widths := by decide

/-- No not-ready read, and two. -/
theorem witness_InfinitePollReadsUntilReady :
    (ready Q16 [ok [0x80]]).quiet ∧ P.tInfinite ≠ 0 ∧ isReady P 0x80 ∧ (∀ b ∈ ([] : List Byte), notReady P b) ∧
    (ready Q16 [ok [0x80]]).btpIn = byteAnswers ([] ++ [0x80]) ++ [] ∧
    (∀ b ∈ [(0x7F : Byte), 0], notReady P b) ∧
    (ready Q16 [ok [0x7F], ok [0], ok [0x80]]).btpIn = byteAnswers ([0x7F, 0] ++ [0x80]) ++ [] := by decide

/-- One turn with exactly `timeout` ticks elapsed; the least and the greatest finite timeout; a wrap of the counter. -/
theorem witness_FinitePollEndsWhenReady :
    ({ ready Q16 [ok [0], ok [0x80]] with tickIn := [0xFFFFFFFF, 0] } : State).quiet ∧
    (1 : Nat) ≠ 0 ∧ (1 : Nat) ≠ P.tInfinite ∧ 0xFFFFFFFF < 2 ^ P.tickW ∧ (0xFFFFFFFE : Nat) ≠ 0 ∧
      (0xFFFFFFFE : Nat) ≠ P.tInfinite ∧
    (∀ p ∈ [((0 : Byte), (0 : Nat))], notReady P p.1 ∧ p.2 < 2 ^ P.tickW ∧ ticksFrom P 0xFFFFFFFF p.2 ≤ 1) ∧
      isReady P 0x80 ∧
    ({ ready Q16 [ok [0], ok [0x80]] with tickIn := [0xFFFFFFFF, 0] } : State).btpIn =
      byteAnswers ([((0 : Byte), (0 : Nat))].map Prod.fst ++ [0x80]) ++ [] ∧
    ({ ready Q16 [ok [0], ok [0x80]] with tickIn := [0xFFFFFFFF, 0] } : State).tickIn =
      0xFFFFFFFF :: [((0 : Byte), (0 : Nat))].map Prod.snd ++ [] := by
  refine ⟨?_, ?_, ?_, ?_, ?_, ?_, ?_, ?_, ?_, ?_⟩ <;>
    first | (intro p hp; cases List.mem_singleton.mp hp; exact ⟨rfl, by decide, by decide⟩) | decide

/-- A turn with exactly `timeout` ticks elapsed, then one more; and the greatest finite timeout. -/
theorem witness_FinitePollTimesOut :
    ({ ready Q16 [ok [0], ok [0]] with tickIn := [0xFFFFFFFF, 0, 1] } : State).quiet ∧
    (1 : Nat) ≠ 0 ∧ (1 : Nat) ≠ P.tInfinite ∧ 0xFFFFFFFF < 2 ^ P.tickW ∧
    (∀ p ∈ [((0 : Byte), (0 : Nat))],
      notReady P p.1 ∧ p.2 < 2 ^ P.tickW ∧ ticksFrom P 0xFFFFFFFF p.2 ≤ 1) ∧ notReady P 0 ∧
    1 < 2 ^ P.tickW ∧ 1 < ticksFrom P 0xFFFFFFFF 1 ∧ 0xFFFFFFFE < ticksFrom P 5 4 ∧
    ({ ready Q16 [ok [0], ok [0]] with tickIn := [0xFFFFFFFF, 0, 1] } : State).btpIn =
      byteAnswers ([((0 : Byte), (0 : Nat))].map Prod.fst ++ [0]) ++ [] ∧
    ({ ready Q16 [ok [0], ok [0]] with tickIn := [0xFFFFFFFF, 0, 1] } : State).tickIn =
      0xFFFFFFFF :: [((0 : Byte), (0 : Nat))].map Prod.snd ++ 1 :: [] := by
  refine ⟨?_, ?_, ?_, ?_, ?_, ?_, ?_, ?_, ?_, ?_, ?_⟩ <;>
    first | (intro p hp; cases List.mem_singleton.mp hp; exact ⟨rfl, by decide, by decide⟩) | decide

/-- An infinite poll, a finite one with exactly `timeout` ticks elapsed, `eraseChip()`; no flag read before, and one. -/
theorem witness_PollEndsAtAFailedFlagRead :
    (ready Q16 [ok [0x7F], fail]).quiet ∧ P.tInfinite ≠ 0 ∧ (∀ b ∈ [(0x7F : Byte)], notReady P b) ∧
    (ready Q16 [ok [0x7F], fail]).btpIn = byteAnswers [0x7F] ++ some .fail :: [] ∧
    (ready Q16 [fail]).btpIn = byteAnswers [] ++ some .fail :: [] ∧
    (1 : Nat) ≠ 0 ∧ (1 : Nat) ≠ P.tInfinite ∧ 0xFFFFFFFF < 2 ^ P.tickW ∧
    (∀ p ∈ [((0x7F : Byte), (0 : Nat))], notReady P p.1 ∧ p.2 < 2 ^ P.tickW ∧ ticksFrom P 0xFFFFFFFF p.2 ≤ 1) ∧
    (ready Q16 [ok [0x7F], fail]).btpIn =
      byteAnswers ([((0x7F : Byte), (0 : Nat))].map Prod.fst) ++ some .fail :: [] ∧
    ({ ready Q16 [ok [0x7F], fail] with tickIn := [0xFFFFFFFF, 0] } : State).tickIn =
      0xFFFFFFFF :: [((0x7F : Byte), (0 : Nat))].map Prod.snd ++ [] ∧
    (ready Q16 [ok [], ok [], ok [0x7F], fail]).btpIn =
      some (.ok []) :: some (.ok []) :: (byteAnswers [0x7F] ++ some .fail :: []) := by
  refine ⟨?_, ?_, ?_, ?_, ?_, ?_, ?_, ?_, ?_, ?_, ?_, ?_⟩ <;>
    first | (intro p hp; cases List.mem_singleton.mp hp; exact ⟨rfl, by decide, by decide⟩) | decide

theorem witness_EraseChipPollsUntilReady :
    (ready Q16 [ok [], ok [], ok [0], ok [0x80]]).quiet ∧ (∀ b ∈ [(0 : Byte)], notReady P b) ∧ isReady P 0x80 ∧
    (ready Q16 [ok [], ok [], ok [0], ok [0x80]]).btpIn =
      some (.ok []) :: some (.ok []) :: (byteAnswers ([0] ++ [0x80]) ++ []) := by decide

theorem witness_FailedEraseDoesNotPoll :
    (ready Q16 [fail]).quiet ∧ (ready Q16 [fail]).btpIn = some .fail :: [] ∧
    (ready Q16 [ok [], fail]).quiet ∧ (ready Q16 [ok [], fail]).btpIn = some (.ok []) :: some .fail :: [] := by decide

theorem witness_MapCallsConfigureThePrimitive :
    ({ ready Q16 [] with mmIn := [some .ok] } : State).busFree ∧
    ({ ready Q16 [] with mmIn := [some .ok] } : State).mmIn = some .ok :: [] := by decide

theorem witness_MemoryMapSetupSucceeds :
    ({ ready Q16 [] with mmIn := [some .ok, some .ok, some .ok] } : State).quiet ∧
    ({ ready Q16 [] with mmIn := [some .ok, some .ok, some .ok] } : State).mmIn =
      some .ok :: some .ok :: some .ok :: [] := by decide

/-- The first, the second and the third call fails. -/
theorem witness_FailedMapSetupHalts :
    ({ ready Q16 [] with mmIn := [some .fail] } : State).quiet ∧ 0 ≤ 2 ∧ 2 ≤ 2 ∧
    ({ ready Q16 [] with mmIn := [some .fail] } : State).mmIn = List.replicate 0 (some .ok) ++ some .fail :: [] ∧
    ({ ready Q16 [] with mmIn := [some .ok, some .fail] } : State).mmIn =
      List.replicate 1 (some .ok) ++ some .fail :: [] ∧
    ({ ready Q16 [] with mmIn := [some .ok, some .ok, some .fail] } : State).mmIn =
      List.replicate 2 (some .ok) ++ some .fail :: [] := by decide

theorem witness_FatalIsAbsorbing :
    ({ State.reset with seq := .fatal } : State).seq = .fatal ∧
    ({ State.reset with seq := .fatal } : State).resetIn = false ∧ Instr.mmap.isHost = true ∧
    Instr.wren.isWire = true := by decide

/-- A block whose window is set up, with one request and one answer. -/
def mapped (r : HostReq) (a : Option Answer) : State :=
  { ready Q16 [a] with
    mm := true, primWrite := some (writeTemplate P Q16), primRead := some (readTemplate P Q16), inbox := [r] }

/-- A load of no byte, a load of two, a store. -/
theorem witness_WindowAccessesAreTheTemplatesFrames :
    (mapped (.load 0 0) (ok [])).quiet ∧ (mapped (.load 0 0) (ok [])).mm = true ∧
    (mapped (.load 0 0) (ok [])).primWrite = some (writeTemplate P Q16) ∧
    (mapped (.load 0 0) (ok [])).primRead = some (readTemplate P Q16) ∧
    (mapped (.load 0 0) (ok [])).inbox = .load 0 0 :: [] ∧ (mapped (.load 0 0) (ok [])).btpIn = some (.ok []) :: [] ∧
    ([] : List Byte).length = (0 : Length).toNat ∧
    (mapped (.load 4 2) (ok [1, 2])).btpIn = some (.ok [1, 2]) :: [] ∧ [(1 : Byte), 2].length = (2 : Length).toNat ∧
    (mapped (.store 4 [1]) (ok [])).inbox = .store 4 [1] :: [] ∧
    (mapped (.store 4 [1]) (ok [])).btpIn = some (.ok []) :: [] := by decide

theorem witness_BusResetPlaysTheSequence : State.reset.busFree ∧ State.reset.resetIn = false := by decide

theorem witness_LineNeedsThePins :
    ({ State.reset with pinOwner := .seq } : State).seq ≠ .fatal ∧
    ({ State.reset with pinOwner := .seq } : State).pinOwner = .seq ∧
    State.reset.seq ≠ .fatal ∧ State.reset.pinOwner = .btp := by decide

/-- The pins with the sequencer, at an instruction, at each other step that makes a call, at a window access. -/
theorem witness_NoBusCallWhilePinsAreHeld :
    ∃ (s : Micro → State) (u : State), (∀ m, (s m).seq ≠ .fatal ∧ (s m).pinOwner = .seq ∧ (s m).resetIn = false ∧
        (s m).agenda = m :: [] ∧ (s m).privWin = true) ∧ Instr.wren.isWire = true ∧ (Instr.wrsr 0).isWire = true ∧
      u.seq ≠ .fatal ∧ u.pinOwner = .seq ∧ u.resetIn = false ∧ u.agenda = [] ∧ u.mm = true ∧
      u.primWrite = some (writeTemplate P Q16) ∧ u.primRead = some (readTemplate P Q16) ∧ u.inbox = .load 0 0 :: [] :=
  ⟨fun m => { State.reset with pinOwner := .seq, privWin := true, agenda := [m] },
   { mapped (.load 0 0) (ok []) with pinOwner := .seq },
   fun _ => ⟨nofun, rfl, rfl, rfl, rfl⟩, rfl, rfl, by decide, rfl, rfl, rfl, rfl, rfl, rfl, rfl⟩

/-- The block right before ENABLE_WRITE. -/
def beforeEnableWrite (answers : List (Option Answer)) : State :=
  midInit .reset (ctxDefault P) [.advance, .op .clfsr, .op .wren, .advance, .giveRsp false] answers

theorem witness_EnableWriteState :
    (beforeEnableWrite [ok [], ok []]).cmd = some (.init CQ 4 false) ∧ (beforeEnableWrite [ok [], ok []]).seq = .reset ∧
    (beforeEnableWrite [ok [], ok []]).ctx = (ctxDefault P) ∧ (beforeEnableWrite [ok [], ok []]).pinOwner = .btp ∧
    (beforeEnableWrite [ok [], ok []]).resetIn = false ∧
    (beforeEnableWrite [ok [], ok []]).agenda = .advance :: .op .clfsr :: .op .wren :: .advance :: [.giveRsp false] ∧
    (beforeEnableWrite [ok [], ok []]).btpIn = some (.ok []) :: some (.ok []) :: [] ∧
    (beforeEnableWrite [fail]).btpIn = some .fail :: [] ∧
    (beforeEnableWrite [ok [], fail]).btpIn = some (.ok []) :: some .fail :: [] := by decide

/-- The block right before SELECT_MODE. -/
def beforeSelectMode : State :=
  midInit .programVolatile (ctxDefault P) [.advance, .op (.derive 4 false CQ), .commitCtx, .advance, .giveRsp false] []

theorem witness_SelectModeCommitsTheContext :
    beforeSelectMode.seq = .programVolatile ∧ beforeSelectMode.resetIn = false ∧ deriveCtx P 4 false CQ = some Q16 ∧
    beforeSelectMode.agenda = .advance :: .op (.derive 4 false CQ) :: .commitCtx :: .advance :: [.giveRsp false] := by
  decide

/-- The block right before the ready test. -/
def beforeCheckReady (b : Byte) : State := { midInit .verifyStatus Q16 [.checkReady, .advance] [] with rx := [b] }

theorem witness_VerifyStatusNeedsReady :
    (beforeCheckReady 0x7F).cmd = some (.init CQ 4 false) ∧ (beforeCheckReady 0x7F).seq = .verifyStatus ∧
    (beforeCheckReady 0x7F).resetIn = false ∧ (beforeCheckReady 0x7F).rx = [0x7F] ∧
    (beforeCheckReady 0x7F).agenda = .checkReady :: [.advance] ∧ notReady P 0x7F ∧
    (beforeCheckReady 0x80).rx = [0x80] ∧ isReady P 0x80 := by decide

/-- The block right before it reads NVCR back, the shadow being the image the answers give. -/
def beforeReadBack : State :=
  { midInit .verifyNonvolatile Q16 (readBlock P .nvcr [] ++ [.verify .nvShadow, .advance])
      (byteAnswers (nvImage P CQ)) with nvShadow := nvImage P CQ }

/-- The block right before it reads VCR back in `reProvision` and gets another image than it wants. -/
def beforeRp6 (skip : List SubregIndex) : State :=
  midReprov true none (readBlock P .vcr skip ++ [.verify (.bytes (imageBytes (vImage P CQ) skip))])
    (byteAnswers (imageBytes (nvImage P CQ) skip))

/-- A read-back of `initialize` that agrees; the same answers disagree with the shadow of the reset state. In
`reProvision` the same against the image wanted, and against another, with and without an index left out. -/
theorem witness_ReadBackIsComparedByteByByte :
    (ConfigSpace.nvcr, P.op.rdnvcr, Expected.nvShadow) ∈
      [(ConfigSpace.nvcr, P.op.rdnvcr, Expected.nvShadow), (.vcr, P.op.rdvcr, .vShadow)] ∧
    beforeReadBack.cmd = some (.init CQ 4 false) ∧ beforeReadBack.busFree ∧ beforeReadBack.resetIn = false ∧
    beforeReadBack.agenda = readBlock P .nvcr [] ++ .verify .nvShadow :: [.advance] ∧
    beforeReadBack.btpIn = byteAnswers (nvImage P CQ) ++ [] ∧ (nvImage P CQ).length = P.regBlockLen ∧
    beforeReadBack.nvShadow = nvImage P CQ ∧ State.reset.nvShadow ≠ nvImage P CQ ∧
    (∀ skip ∈ [[], [(2 : SubregIndex)]],
      (beforeRp6 skip).busFree ∧ (beforeRp6 skip).resetIn = false ∧ (beforeRp6 skip).cmd = some .reprov ∧
      (beforeRp6 skip).err = none ∧
      (beforeRp6 skip).agenda = readBlock P .vcr skip ++ .verify (.bytes (imageBytes (vImage P CQ) skip)) :: [] ∧
      (beforeRp6 skip).btpIn = byteAnswers (imageBytes (nvImage P CQ) skip) ++ [] ∧
      imageBytes (nvImage P CQ) skip ≠ imageBytes (vImage P CQ) skip) := by decide

theorem witness_BringupReachesReady :
    ∃ s : State, s.quiet ∧ deriveCtx P 8 true CQ = some { OD32 with abw := .bits24 } ∧ isReady P 0x80 ∧
      s.btpIn = okAnswers (4 + 4 * P.regBlockLen) ++ byteAnswers [0x80] ++ byteAnswers (nvImage P CQ) ++
        byteAnswers (vImage P CQ) ++ [] :=
  ⟨{ State.reset with
       btpIn := okAnswers (4 + 4 * P.regBlockLen) ++ byteAnswers [0x80] ++ byteAnswers (nvImage P CQ) ++
         byteAnswers (vImage P CQ) ++ [] }, by decide, by decide, by decide, rfl⟩

theorem witness_ReprovisioningSucceeds :
    ∃ s : State, s.quiet ∧ s.params.reprovBulkVerify = .skip ∧ (0xFF : Byte) &&& P.bpMask = P.bpMask ∧
      (0x80 : Byte) &&& P.bpMask = 0 ∧ s.params = P ∧
      s.btpIn = okAnswers (4 + 2 * P.regBlockLen + 2 * (covered P (maintSkip P)).length) ++
        byteAnswers (imageBytes (nvImage P P.defaultCfg) []) ++
        byteAnswers (imageBytes (vImage P P.defaultCfg) (maintSkip P)) ++
        (okAnswers 2 ++ byteAnswers [0xFF]) ++ (okAnswers 2 ++ byteAnswers [0x80]) ++ okAnswers 3 ++ [] :=
  ⟨ready Q16 _, ⟨⟨by simp [ready], rfl⟩, rfl, rfl⟩, rfl, by decide, by decide, rfl, rfl⟩

/-- With the default `REG_BLOCK_LEN` and `MAINT_SUBREG` (sub-register 2) the volatile block is eight sub-registers:
64 frames (44_reprovision.md R231). -/
theorem test_reprov_frames : 13 + 3 * P.regBlockLen + 3 * (covered P (maintSkip P)).length = 64 := by decide

/-- The window open and every exit frame answered Ok or Fail; the window closed; an error of the body kept. -/
theorem witness_CleanupAlwaysRuns :
    (midReprov true none cleanupProgram [ok [], fail, ok []]).cmd = some .reprov ∧
    (midReprov true none cleanupProgram [ok [], fail, ok []]).agenda = cleanupProgram ∧
    (midReprov true none cleanupProgram [ok [], fail, ok []]).busFree ∧
    (midReprov true none cleanupProgram [ok [], fail, ok []]).resetIn = false ∧
    (midReprov true none cleanupProgram [ok [], fail, ok []]).privWin = true ∧
    (midReprov true none cleanupProgram [ok [], fail, ok []]).btpIn =
      some (.ok []) :: some .fail :: some (.ok []) :: [] ∧
    (midReprov true (some .verification) cleanupProgram [fail, ok []]).err = some .verification ∧
    (midReprov true (some .verification) cleanupProgram [fail, ok []]).btpIn = some .fail :: some (.ok []) :: [] ∧
    (midReprov false none cleanupProgram [fail]).privWin = false ∧
    (midReprov false none cleanupProgram [fail]).err = none ∧
    (midReprov false none cleanupProgram [fail]).btpIn = some .fail :: [] := by decide

/-- The block right before a block-protect test. -/
def beforeCheckProtect (b : Byte) : State := { midReprov true none [.checkProtect 0x7F] [] with rx := [b] }

theorem witness_ProtectTestsIgnoreReady :
    (beforeCheckProtect 0xFF).cmd = some .reprov ∧ (beforeCheckProtect 0xFF).err = none ∧
    (beforeCheckProtect 0xFF).resetIn = false ∧ (beforeCheckProtect 0xFF).seq ≠ .fatal ∧
    (beforeCheckProtect 0xFF).rx = [0xFF] ∧ (beforeCheckProtect 0xFF).agenda = .checkProtect 0x7F :: [] ∧
    (0xFF : Byte) &&& P.bpMask = 0x7F ∧ (beforeCheckProtect 0x3F).rx = [0x3F] ∧
    (0x3F : Byte) &&& P.bpMask ≠ 0x7F := by decide

/-- A block in the middle of `clearFlags()`. -/
def midClearFlags : State :=
  { State.reset with cmd := some .clearFlags, agenda := .op .clfsr :: endProgram .ok false, btpIn := [ok []] }

/-- A command word on the port of an idle block; an instruction at the head of the agenda. -/
theorem witness_StepRunsTheDecodedInstruction :
    ∃ s t : State, s.resetIn = false ∧ s.seq ≠ .fatal ∧ s.agenda = [] ∧
      s.inbox = .cmd (CmdWord.ofCode 0x06) :: [] ∧
      decode s.params (.command (CmdWord.ofCode 0x06)) = .ok .readStatus ∧
      t.resetIn = false ∧ t.seq ≠ .fatal ∧ t.agenda = .op .clfsr :: endProgram .ok false :=
  ⟨{ State.reset with inbox := [.cmd (CmdWord.ofCode 0x06)] }, midClearFlags,
   rfl, by decide, rfl, rfl, rfl, rfl, by decide, rfl⟩

theorem witness_HardwareResetFromAnyState :
    ({ State.reset with seq := .fatal, resetIn := true } : State).resetIn = true := rfl

/-- A running command, with a second one waiting. -/
theorem witness_SecondCommandIsRefused :
    Instr.readId.isHost = true ∧ (midReprov false none [.conclude, .giveRsp false] []).seq ≠ .fatal ∧
    (midReprov false none [.conclude, .giveRsp false] []).busy = true ∧
    midClearFlags.seq ≠ .fatal ∧ midClearFlags.busy = true ∧ midClearFlags.resetIn = false ∧
    midClearFlags.agenda ≠ [] ∧
    look State.inbox (step { midClearFlags with inbox := [.cmd (CmdWord.ofCode 5)] }) =
      some [.cmd (CmdWord.ofCode 5)] := by
  refine ⟨rfl, by decide, rfl, by decide, rfl, rfl, by decide, rfl⟩

theorem ctxDefault_derived : (ctxDefault P).derived P := .inl rfl

theorem reset_inv : State.reset.Inv where
  ctx := ctxDefault_derived
  ret := by intro c h; cases h
  legal := rfl
  pins := rfl
  window := rfl
  opener := by decide
  seq := rfl
  mover := by decide
  idle := by decide
  last := rfl
  fatal := by decide
  ticks := by decide
  images := ⟨rfl, rfl, by intro img h; cases h⟩
  mapOk := rfl
  mapped := by decide

theorem midClearFlags_inv : midClearFlags.Inv where
  ctx := ctxDefault_derived
  ret := by intro c h; cases h
  legal := rfl
  pins := rfl
  window := rfl
  opener := by decide
  seq := rfl
  mover := by decide
  idle := by decide
  last := rfl
  fatal := by decide
  ticks := by decide
  images := ⟨rfl, rfl, by intro img h; cases h⟩
  mapOk := rfl
  mapped := by decide

/-- A block that refuses a width. -/
def failingInit : State :=
  { State.reset with cmd := some (.init CQ 9 false), agenda := .enterError :: endProgram .config false }

theorem failingInit_inv : failingInit.Inv where
  ctx := ctxDefault_derived
  ret := by intro c h; cases h
  legal := rfl
  pins := rfl
  window := rfl
  opener := by decide
  seq := rfl
  mover := by decide
  idle := by decide
  last := rfl
  fatal := by decide
  ticks := by decide
  images := ⟨rfl, rfl, by intro img h; cases h⟩
  mapOk := rfl
  mapped := by decide

/-- A block about to end a poll with Timeout. -/
def beforeResult : State := { State.reset with cmd := some (.poll 1), agenda := endProgram .timeout false }

theorem beforeResult_inv : beforeResult.Inv where
  ctx := ctxDefault_derived
  ret := by intro c h; cases h
  legal := rfl
  pins := rfl
  window := rfl
  opener := by decide
  seq := rfl
  mover := by decide
  idle := by decide
  last := rfl
  fatal := by decide
  ticks := by decide
  images := ⟨rfl, rfl, by intro img h; cases h⟩
  mapOk := rfl
  mapped := by decide

/-- A block about to respond. -/
def beforeResponse : State := { State.reset with cmd := some .readStatus, agenda := [.giveRsp true], rx := [7] }

theorem beforeResponse_inv : beforeResponse.Inv where
  ctx := ctxDefault_derived
  ret := by intro c h; cases h
  legal := rfl
  pins := rfl
  window := rfl
  opener := by decide
  seq := rfl
  mover := by decide
  idle := by decide
  last := rfl
  fatal := by decide
  ticks := by decide
  images := ⟨rfl, rfl, by intro img h; cases h⟩
  mapOk := rfl
  mapped := by decide

/-- Each of the cases: `seq` kept, moved on, to RESET, to ERROR, to FATAL; and the step to each coming into waiting. -/
theorem witness_SeqMovesInOrder :
    State.reset.resetIn = false ∧ step State.reset = .next State.reset ∧
    look State.seq (step beforeSelectMode) = some .selectMode ∧
    look State.seq (step { beforeSelectMode with agenda := [.enterReset] }) = some .reset ∧
    look State.seq (step failingInit) = some .error ∧
    look State.seq (step { failingInit with agenda := [.enterFatal] }) = some .fatal ∧
    after 0 State.agenda (.init CQ 4 false) State.reset = some (bringupProgram P CQ 4 false) ∧
    after 0 State.agenda (.init CQ 9 false) State.reset = some failingInit.agenda ∧
    look State.agenda (step (beforeCheckReady 0)) = some (failProgram (some (.init CQ 4 false)) .verification) ∧
    look State.agenda (step { State.reset with
      cmd := some .mmap, agenda := mmapProgram P (ctxDefault P), mmIn := [some .fail] }) = some [.enterFatal] ∧
    failingInit.Inv ∧ failingInit.agenda.head? = some .enterError :=
  ⟨rfl, rfl, rfl, rfl, rfl, rfl, rfl, rfl, rfl, rfl, failingInit_inv, rfl⟩

/-- Each of the registers changes at its step, `res` in a state of the invariant. -/
theorem witness_RegistersChangeOnlyAtTheirSteps :
    beforeSelectMode.resetIn = false ∧ look State.seq (step beforeSelectMode) = some .selectMode ∧
    look State.ctx (step { beforeSelectMode with agenda := [.commitCtx], ret := .ctx Q16 }) = some Q16 ∧
    look State.nvShadow (step { beforeSelectMode with agenda := [.storeNv], ret := .image (nvImage P CQ) }) =
      some (nvImage P CQ) ∧
    look State.pollStart (step { beforeSelectMode with agenda := [.startTimer], now := 7 }) = some 7 ∧
    look State.mm (step { beforeSelectMode with agenda := [.setMm] }) = some true ∧
    look State.pinOwner (step { beforeSelectMode with agenda := [.takePins] }) = some .seq ∧
    look State.privWin (step { beforeSelectMode with agenda := [.openWindow] }) = some true ∧
    beforeResult.Inv ∧ look State.res (step beforeResult) = some .timeout ∧ beforeResult.res ≠ .timeout :=
  ⟨rfl, rfl, rfl, rfl, rfl, rfl, rfl, rfl, beforeResult_inv, rfl, by decide⟩

theorem witness_StepKeepsTheInvariant :
    midClearFlags.Inv ∧ look State.agenda (step midClearFlags) = some (endProgram .ok false) :=
  ⟨midClearFlags_inv, rfl⟩

theorem witness_IdleBlockIsClosed : State.reset.Inv ∧ State.reset.cmd = none := ⟨reset_inv, rfl⟩

/-- A running command, an idle block with no request, with a command, with a window load; another policy. -/
theorem witness_NoStepIsRefused :
    midClearFlags.Inv ∧ midClearFlags.seq ≠ .fatal ∧ midClearFlags.agenda ≠ [] ∧
    midClearFlags.params.reprovBulkVerify = .skip ∧
    State.reset.agenda = [] ∧ (∀ r, State.reset.inbox.head? = some r → meaningful State.reset r) ∧
    meaningful State.reset (.cmd (CmdWord.ofCode 0x06)) ∧ meaningful (mapped (.load 0 0) (ok [])) (.load 0 0) ∧
    ({ P with reprovBulkVerify := .other } : Params).reprovBulkVerify ≠ .skip ∧
    midClearFlags.agenda.head? ≠ some .bulkVerify :=
  ⟨midClearFlags_inv, by decide, by decide, rfl, rfl, by simp [State.reset], ⟨.readStatus, rfl⟩, rfl, by decide,
   by decide⟩

/-- A write pair between its two frames. -/
def midPair : State :=
  { ready Q16 [ok []] with
    cmd := some (.write 0 []), agenda := .second (.writeQuad 0 []) :: endProgram .ok false,
    events := [.cmd (.write 0 []), sent (bareFrame 0x06 Q16) []] }

theorem witness_StepKeepsWriteEnablePairs :
    midPair.WriteEnabled ∧ look State.agenda (step midPair) = some (endProgram .ok false) :=
  ⟨⟨by unfold Params.Distinct; decide, rfl, rfl⟩, rfl⟩

theorem witness_ResponseLeavesTheBlockIdle :
    beforeResponse.Inv ∧ beforeResponse.resetIn = false ∧
    look State.events (step beforeResponse) = some (beforeResponse.events ++ [] ++ [.rsp .ok [7]]) :=
  ⟨beforeResponse_inv, rfl, rfl⟩

/-- A frame, a command word, a port call. -/
theorem witness_DecodeOfEncode :
    P.Distinct ∧ (Instr.wrnvcr 8 0xFF).wf P = true ∧
    encode P OD32 (.wrnvcr 8 0xFF) =
      some (.wire (frm 0xB1 .eight (A 8 .bits32 .eight) 0 (some (.send .eight [0xFF])))) ∧
    (Instr.init CQ 15 true).wf P = true ∧
    encode P Q16 (.init CQ 15 true) = some (.command { CmdWord.ofCode 0x00 with w := 15, dtr := true, cfg := CQ }) ∧
    (Instr.line .db false).wf P = true ∧ encode P Q16 (.line .db false) = some (.lineStep .db false) :=
  ⟨by unfold Params.Distinct; decide, rfl, rfl, rfl, rfl, rfl, rfl⟩

/-- Each code of R98, a WRITE of the right and of a wrong length, the least and the greatest reserved code. -/
theorem witness_CommandWordsDecodeToHostCommands :
    P.Distinct ∧ P.cmd.all = [0, 1, 2, 3, 4, 5, 6, 7, 8, 9, 10] ∧ (0x0B : Byte) ∉ P.cmd.all ∧
      (0xFF : Byte) ∉ P.cmd.all ∧
    ({ CmdWord.ofCode 3 with length := 1, wdata := [7] } : CmdWord).wdata.length = (1 : Length).toNat ∧
    ({ CmdWord.ofCode 3 with length := 1 } : CmdWord).wdata.length ≠ (1 : Length).toNat := by
  unfold Params.Distinct
  decide

end Sys2Proof.Tests
end

/-! Proofs for 30_encoding.md: the packed byte (R96). -/

namespace Sys2Proof

/-! ## The packed byte -/

/-- R96 as a table of bits, for every bit position. -/
theorem packedByte_getLsbD (c : Record) (b : Nat) :
    (packedByte c).getLsbD b =
      if b = 7 then c.erasePol else if b = 2 then c.otpLock else if b = 1 then c.rstPin else if b = 0 then c.wrMode
      else false := by
  simp only [packedByte, BitVec.getLsbD_append, BitVec.getLsbD_ofBool, BitVec.getLsbD_zero]
  match b with
  | 0 | 1 | 2 | 3 | 4 | 5 | 6 | 7 => simp
  | n + 8 => simp

/-- R96 as a number: the four bits with their weights. -/
theorem packedByte_toNat (c : Record) :
    (packedByte c).toNat =
      c.erasePol.toNat * 0x80 + c.otpLock.toNat * 0x04 + c.rstPin.toNat * 0x02 + c.wrMode.toNat * 0x01 := by
  unfold packedByte
  generalize c.erasePol = e, c.otpLock = o, c.rstPin = r, c.wrMode = w
  revert e o r w
  decide

/-- The bits between OTP-lock and erase-value polarity are 0, so a packed byte is in one of two runs of eight. -/
theorem packedByte_range (c : Record) :
    (packedByte c).toNat ≤ 0x07 ∨ (0x80 ≤ (packedByte c).toNat ∧ (packedByte c).toNat ≤ 0x87) := by
  have he := c.erasePol.toNat_le
  have ho := c.otpLock.toNat_le
  have hr := c.rstPin.toNat_le
  have hw := c.wrMode.toNat_le
  rw [packedByte_toNat]
  omega

/-- DECODE reads all four bits of byte 8 (R131), so packing them again gives back a byte of the two runs. -/
theorem packedByte_decodeRecord (b0 b1 b2 b3 b4 b5 b6 b7 b8 : Byte) (rest : Image)
    (h : b8.toNat ≤ 0x07 ∨ (0x80 ≤ b8.toNat ∧ b8.toNat ≤ 0x87)) :
    packedByte (decodeRecord (b0 :: b1 :: b2 :: b3 :: b4 :: b5 :: b6 :: b7 :: b8 :: rest)) = b8 := by
  apply BitVec.eq_of_toNat_eq
  rw [packedByte_toNat]
  simp only [decodeRecord, BitVec.getLsbD, Nat.toNat_testBit]
  omega

/-- The sixteen values of R96. -/
theorem exists_packedByte_iff (x : Byte) :
    (∃ c : Record, packedByte c = x) ↔ x.toNat ≤ 0x07 ∨ (0x80 ≤ x.toNat ∧ x.toNat ≤ 0x87) := by
  constructor
  · rintro ⟨c, rfl⟩
    exact packedByte_range c
  · intro h
    exact ⟨decodeRecord [0, 0, 0, 0, 0, 0, 0, 0, x], packedByte_decodeRecord 0 0 0 0 0 0 0 0 x [] h⟩

/-! ## Its place in the image -/

/-- An image of nine bytes is neither cut nor filled: it is the bytes of R95. -/
theorem encodeImage_of_nine {P : Params} (h : P.regBlockLen = 9) (c : Record) :
    encodeImage P c = imageFields P c := by
  rw [encodeImage, h]
  rfl

/-- Settles O22: the bits and the number by the layout of R96, the sixteen values by number one way and by DECODE the
other, the place by the nine bytes of R95. -/
theorem packedByteIsBitExact : Obligations.PackedByteIsBitExact := by
  refine ⟨packedByte_getLsbD, packedByte_toNat, exists_packedByte_iff, ?_⟩
  intro P c h
  rw [encodeImage_of_nine h]
  rfl

end Sys2Proof

/-! Proofs for 40_register_codec.md: the two images of bring-up (R133). -/

namespace Sys2Proof

/-! ## The record of the non-volatile image -/

/-- Leaving OTP-lock out changes nothing where it is 0 already. -/
theorem withoutOtpLock_of_otpLock_eq_false {c : Record} (h : c.otpLock = false) : { c with otpLock := false } = c := by
  rw [← h]

/-- OTP-lock goes into the packed byte and into no byte before it (R95). -/
theorem imageFields_withOtpLock_getElem? (P : Params) (c : Record) (v : Bool) {k : Nat} (h : k < 8) :
    (imageFields P { c with otpLock := v })[k]? = (imageFields P c)[k]? := by
  have hlead : (imageFields P { c with otpLock := v }).take 8 = (imageFields P c).take 8 := rfl
  rw [← List.getElem?_take_of_lt h, hlead, List.getElem?_take_of_lt h]

/-- Within the packed byte OTP-lock goes into bit 2 and into no other (R96). -/
theorem packedByte_withOtpLock_getLsbD (c : Record) (v : Bool) {b : Nat} (h : b ≠ 2) :
    (packedByte { c with otpLock := v }).getLsbD b = (packedByte c).getLsbD b := by
  simp only [packedByte_getLsbD, if_neg h]

/-- Bit 2 of the packed byte is OTP-lock (R96). -/
theorem packedByte_getLsbD_two (c : Record) : (packedByte c).getLsbD 2 = c.otpLock :=
  packedByte_getLsbD c 2

/-! ## The images of nine bytes -/

/-- Byte 8 of an image of nine bytes is the packed byte (R95). -/
theorem encodeImage_getD_eight {P : Params} (h : P.regBlockLen = 9) (c : Record) :
    (encodeImage P c).getD 8 0 = packedByte c := by
  rw [encodeImage_of_nine h]
  rfl

theorem nvImage_eq_vImage_of_otpLock_eq_false (P : Params) {c : Record} (h : c.otpLock = false) :
    nvImage P c = vImage P c := by
  rw [nvImage, vImage, withoutOtpLock_of_otpLock_eq_false h]

theorem nvImage_getElem?_eq_vImage {P : Params} (h : P.regBlockLen = 9) (c : Record) {k : Nat} (hk : k < 8) :
    (nvImage P c)[k]? = (vImage P c)[k]? := by
  rw [nvImage, vImage, encodeImage_of_nine h, encodeImage_of_nine h]
  exact imageFields_withOtpLock_getElem? P c false hk

theorem nvImage_getD_eight {P : Params} (h : P.regBlockLen = 9) (c : Record) :
    (nvImage P c).getD 8 0 = packedByte { c with otpLock := false } :=
  encodeImage_getD_eight h _

theorem vImage_getD_eight {P : Params} (h : P.regBlockLen = 9) (c : Record) :
    (vImage P c).getD 8 0 = packedByte c :=
  encodeImage_getD_eight h c

/-- Settles O4: the images of nine bytes are the bytes of R95, where OTP-lock stands at bit 2 of byte 8 only; the
example of R133 by evaluation. -/
theorem bringupImagesDifferInOtpLockOnly : Obligations.BringupImagesDifferInOtpLockOnly := by
  refine ⟨fun P c h => ?_, _, rfl, by decide, by decide⟩
  have hlen (d : Record) : (encodeImage P d).length = 9 := (Machine.encodeImage_length P d).trans h
  rw [nvImage_getD_eight h, vImage_getD_eight h]
  exact ⟨rfl, rfl, hlen _, hlen c,
    fun _ hk => nvImage_getElem?_eq_vImage h c hk,
    fun _ hb => packedByte_withOtpLock_getLsbD c false hb,
    packedByte_getLsbD_two _, packedByte_getLsbD_two c,
    nvImage_eq_vImage_of_otpLock_eq_false P⟩

end Sys2Proof

/-! Proofs for 46_memory_map.md: the two templates are the frames of `read` and `write` with the operands left open
(R257). -/

namespace Sys2Proof

/-! The opcode of the frame is the one the context names (R169, R170), whichever of the commands it selects. -/

theorem frameOf_selectRead (P : Params) (c : Ctx) (a : Address) (n : Length) :
    frameOf P c (selectRead c a n) = some (arrayReadFrame (c.rop.opcode P) c a n) := by
  unfold selectRead
  cases c.rop with
  | fast | dual | quad | octal | octalDtr => rfl

theorem frameOf_selectWrite (P : Params) (c : Ctx) (a : Address) (v : List Byte) :
    frameOf P c (selectWrite c a v) = some (arrayWriteFrame (c.wop.opcode P) c a v) := by
  unfold selectWrite
  cases c.wop with
  | std | dual | quad | octalExt => rfl

/-! A template with its operands filled in is an array frame of the same opcode. -/

theorem loadFrame_readTemplate (P : Params) (c : Ctx) (a : Address) (n : Length) :
    (readTemplate P c).loadFrame a n = arrayReadFrame (c.rop.opcode P) c a n := rfl

theorem storeFrame_writeTemplate (P : Params) (c : Ctx) (a : Address) (v : List Byte) :
    (writeTemplate P c).storeFrame a v = arrayWriteFrame (c.wop.opcode P) c a v := rfl

/-- Settles O37: the command a context selects and the template filled in both come to the array frame of the context's
opcode; the fields of R257's table are the templates' definitions. -/
theorem templatesAreTheFramesOfReadAndWrite : Obligations.TemplatesAreTheFramesOfReadAndWrite := by
  refine fun P c => ⟨rfl, rfl, fun a n => ?read, fun a v => ?write⟩
  case read => rw [frameOf_selectRead, loadFrame_readTemplate]
  case write => rw [frameOf_selectWrite, storeFrame_writeTemplate]

end Sys2Proof

/-! The steps of the machine as a relation: what a host command puts in waiting, and everything one step in waiting can
do (R5, R300). The proofs about every step are case splits over it. -/

namespace Sys2Proof.Machine

open Sys2Proof

/-! ## Host commands -/

/-- The steps of a host command's rule, which `accept` puts in waiting. -/
def hostProgram (P : Params) (c : Ctx) : Instr → List Micro
  | .init cfg w dtr => initProgram P cfg w dtr
  | .reprov => reprovBody P ++ cleanupProgram
  | .read a n => .op (selectRead c a n) :: endProgram .ok true
  | .write a v => .op (selectWrite c a v) :: endProgram .ok false
  | .eraseChip => eraseProgram
  | .readId => .op .rdid :: endProgram .ok true
  | .readStatus => .op .rdsr :: endProgram .ok true
  | .readFlags => .op .rdfsr :: endProgram .ok true
  | .clearFlags => .op .clfsr :: endProgram .ok false
  | .poll timeout => pollProgram P timeout
  | .mmap => mmapProgram P c
  | .reservedCmd _ => endProgram .config false
  | .wren | .wrdi | .rdsr | .wrsr _ | .rdfsr | .clfsr | .rdid | .rdnvcr _ | .wrnvcr _ _ | .rdvcr _ | .wrvcr _ _
  | .readFast _ _ | .readDual _ _ | .readQuad _ _ | .readOctal _ _ | .readOctalDtr _ _
  | .writeStd _ _ | .writeDual _ _ | .writeQuad _ _ | .writeOctalExt _ _ | .eraseChipFrame => []
  | .encodeRecord _ | .decodeImage _ | .derive _ _ _ | .busReset | .line _ _
  | .mmSetWrite _ | .mmSetRead _ | .mmEnable => []

/-- Every host command is taken in one step that puts its program in waiting. -/
theorem exec_host {i : Instr} (hi : i.isHost = true) (s : State) :
    exec i s = accept i (hostProgram s.params s.ctx i) s := by
  cases i with
  | init | reprov | read | write | eraseChip | readId | readStatus | readFlags | clearFlags | poll | mmap
  | reservedCmd => rfl
  | _ => exact absurd hi Bool.false_ne_true

/-- What a host command does when it is taken (R172, R300). -/
theorem host_eq_next {i : Instr} {s t : State} (hi : i.isHost = true) (h : exec i s = .next t) :
    s.seq ≠ .fatal ∧ s.busy = false ∧
      t = { s.emit (.cmd i) with cmd := some i, agenda := hostProgram s.params s.ctx i, err := none } := by
  rw [exec_host hi] at h
  exact accept_eq_next h

theorem isHost_eq_false_of_isWire {i : Instr} (hi : i.isWire = true) : i.isHost = false := by
  cases i with
  | init | reprov | read | write | eraseChip | readId | readStatus | readFlags | clearFlags | poll | mmap
  | reservedCmd => exact absurd hi Bool.false_ne_true
  | _ => rfl

/-! ## What a step in waiting issues or returns -/

/-- The frame a step in waiting issues by `Btp!`, and the steps it adds after an Ok (R74, R155). -/
inductive Issues (P : Params) (c : Ctx) : Micro → Frame → List Micro → Prop
  | first {i : Instr} {f : Frame} (hi : i.isWire = true) (hf : firstFrame P c i = some f) :
      Issues P c (.op i) f (if i.isPair = true then [.second i] else [])
  | second {i : Instr} {f : Frame} (hf : frameOf P c i = some f) : Issues P c (.second i) f []

/-- The frame a step of the cleanup issues by plain `Btp`, and the steps it adds after an Ok and after a Fail (R229). -/
inductive IssuesPlain (P : Params) (c : Ctx) : Micro → Frame → List Micro → List Micro → Prop
  | exitWindow : IssuesPlain P c .exitWindow (bareFrame P.op.wren c) [.exitWrite, .closeWindow] [.closeWindow]
  | exitWrite : IssuesPlain P c .exitWrite (subregWriteFrame P.op.wrvcr c P.maintSubreg P.maintExit) [] []
  | disableWrite : IssuesPlain P c .disableWrite (bareFrame P.op.wrdi c) [] []

/-- The memory-map call an instruction makes (R256). -/
inductive MakesMapCall (P : Params) : Instr → MmCall → Prop
  | setWrite (tw : Template) : MakesMapCall P (.mmSetWrite tw) (.setWrite tw)
  | setRead (tr : Template) : MakesMapCall P (.mmSetRead tr) (.setRead tr)
  | enable : MakesMapCall P .mmEnable (.enable true P.mmTimeoutPeriod)

/-- What a pure operation returns (R130, R131, R151). -/
inductive Returns (P : Params) : Instr → Returned → Prop
  | image (cfg : Record) : Returns P (.encodeRecord cfg) (.image (encodeImage P cfg))
  | record (img : Image) : Returns P (.decodeImage img) (.record (decodeRecord img))
  | ctx {w : Nat} {dtr : Bool} {cfg : Record} {c : Ctx} (h : deriveCtx P w dtr cfg = some c) :
      Returns P (.derive w dtr cfg) (.ctx c)
  | configError (w : Nat) (dtr : Bool) (cfg : Record) : Returns P (.derive w dtr cfg) .configError

/-- A register update and the state after it (R20 to R32, R202 to R206, R223, R229, R242, R258, R269, R286). -/
inductive Writes (s : State) : Micro → State → Prop
  | advance : Writes s .advance { s with seq := s.seq.succ }
  | enterReset : Writes s .enterReset { s with seq := .reset }
  | enterError : Writes s .enterError { s with seq := .error }
  | clearMm : Writes s .clearMm { s with mm := false }
  | setMm : Writes s .setMm { s with mm := true }
  | defaultCtx : Writes s .defaultCtx { s with ctx := ctxDefault s.params }
  | commitCtx {c : Ctx} (h : s.ret = .ctx c) : Writes s .commitCtx { s with ctx := c }
  | storeNv {img : Image} (h : s.ret = .image img) : Writes s .storeNv { s with nvShadow := img }
  | storeV {img : Image} (h : s.ret = .image img) : Writes s .storeV { s with vShadow := img }
  | takePins : Writes s .takePins { s with pinOwner := .seq }
  | givePins : Writes s .givePins { s with pinOwner := .btp }
  | startTimer : Writes s .startTimer { s with pollStart := s.now }
  | openWindow : Writes s .openWindow { s with privWin := true }
  | closeWindow : Writes s .closeWindow { s with privWin := false }
  | conclude : Writes s .conclude { s with res := s.concluded }
  | setRes (r : Result) : Writes s (.setRes r) { s with res := r }

/-- A step that may find nothing to do: a test that passes, a step without a value to store, a second frame of what has
none, RP9. -/
def Micro.mayPass : Micro → Bool
  | .checkReady | .checkProtect _ | .verify _ | .pollTest _ | .bulkVerify | .commitCtx | .storeNv | .storeV
  | .second _ => true
  | _ => false

/-- A test, with the failure it raises (R207, R225, R228, R242). -/
inductive Raises : Micro → Failure → Prop
  | checkReady : Raises .checkReady .verification
  | checkProtect (want : Byte) : Raises (.checkProtect want) .verification
  | verify (e : Expected) : Raises (.verify e) .verification
  | tickTest (b : Nat) : Raises (.tickTest b) .timeout

/-- A turn of a poll and the steps that keep it going (R242, R243). -/
inductive PollsOn : Micro → List Micro → Prop
  | flag : PollsOn (.pollTest none) (pollTurn none)
  | tick (b : Nat) : PollsOn (.pollTest (some b)) [.readTick, .tickTest b]
  | turn (b : Nat) : PollsOn (.tickTest b) (pollTurn (some b))

/-- A step that calls `Btp` (R9). -/
def Micro.calls : Micro → Bool
  | .op i => i.isWire
  | .second _ | .exitWindow | .exitWrite | .disableWrite => true
  | _ => false

/-! ## What a step in waiting can do -/

/-- Everything step `m`, taken off the agenda of `s`, can leave (R5). -/
inductive Makes (s : State) : Micro → State → Prop
  | waits {m : Micro} (hm : m.calls = true) (hb : s.busFree) : Makes s m (s.drewBtp.push [m])
  | failed {m : Micro} {f : Frame} {ms : List Micro} (hb : s.busFree) (hf : Issues s.params s.ctx m f ms) :
      Makes s m ((s.drewBtp.emit (.btp f .fail)).raise .transport)
  | sent {m : Micro} {f : Frame} {ms : List Micro} {l : List Byte} (hb : s.busFree)
      (hf : Issues s.params s.ctx m f ms) (hl : l.length = f.rxLen) :
      Makes s m (((s.drewBtp.emit (.btp f (.ok l))).received f l).push ms)
  | plainFailed {m : Micro} {f : Frame} {onOk onFail : List Micro} (hb : s.busFree)
      (hf : IssuesPlain s.params s.ctx m f onOk onFail) :
      Makes s m (({ s.drewBtp with err := s.err.or (some .transport) }.emit (.btp f .fail)).push onFail)
  | plainSent {m : Micro} {f : Frame} {onOk onFail : List Micro} {l : List Byte} (hb : s.busFree)
      (hf : IssuesPlain s.params s.ctx m f onOk onFail) : Makes s m ((s.drewBtp.emit (.btp f (.ok l))).push onOk)
  | mapWaits {i : Instr} (hb : s.busFree) : Makes s (.op i) (s.drewMm.push [.op i])
  | mapFailed {i : Instr} {c : MmCall} (hb : s.busFree) (hc : MakesMapCall s.params i c) :
      Makes s (.op i) { s.drewMm.emit (.mm c .fail) with agenda := [.enterFatal] }
  | mapDone {i : Instr} {c : MmCall} (hb : s.busFree) (hc : MakesMapCall s.params i c) :
      Makes s (.op i) ((s.drewMm.emit (.mm c .ok)).configured c)
  | takes {i : Instr} (hi : i.isHost = true) (hb : s.busy = false) :
      Makes s (.op i) { s.emit (.cmd i) with
        cmd := some i, agenda := hostProgram s.params s.ctx i, err := none }
  | returns {i : Instr} {r : Returned} (h : Returns s.params i r) : Makes s (.op i) { s with ret := r }
  | deinit : Makes s (.op .busReset) ((s.emit .busDeinit).push (busResetProgram s.params))
  | line (l : SignalLine) (v : Bool) : Makes s (.op (.line l v)) (s.emit (.line l v))
  | reinit : Makes s .reinit (s.emit .busReinit)
  | reads : Makes s .readTick s.tickRead
  | writes {m : Micro} {t : State} (h : Writes s m t) : Makes s m t
  | clears : Makes s .clearBlk { s with blk := [] }
  | gathers : Makes s .gather { s with blk := s.blk ++ s.rx }
  | passes {m : Micro} (hm : m.mayPass = true) : Makes s m s
  | closed (h : s.privWin = false) : Makes s .exitWindow s
  | raises {m : Micro} {k : Failure} (h : Raises m k) : Makes s m (s.raise k)
  | polls {m : Micro} {ms : List Micro} (h : PollsOn m ms) : Makes s m (s.push ms)
  | halts : Makes s .enterFatal s.halt
  | responds (d : Bool) : Makes s (.giveRsp d) (s.respond d)

/-! The tests, each with its two ends. -/

theorem checkReady_cases (s : State) : s.checkReady = s ∨ s.checkReady = s.raise .verification := by
  unfold State.checkReady; split <;> simp

theorem checkProtect_cases (s : State) (want : Byte) :
    s.checkProtect want = s ∨ s.checkProtect want = s.raise .verification := by
  unfold State.checkProtect; split <;> simp

theorem verify_cases (s : State) (e : Expected) : s.verify e = s ∨ s.verify e = s.raise .verification := by
  unfold State.verify; split <;> simp

theorem pollTest_cases (s : State) (bound : Option Nat) :
    s.pollTest bound = s ∨ ∃ ms, PollsOn (.pollTest bound) ms ∧ s.pollTest bound = s.push ms := by
  unfold State.pollTest
  split
  · exact .inl rfl
  · cases bound with
    | none => exact .inr ⟨_, .flag, rfl⟩
    | some b => exact .inr ⟨_, .tick b, rfl⟩

theorem tickTest_cases (s : State) (b : Nat) :
    s.tickTest b = s.raise .timeout ∨ s.tickTest b = s.push (pollTurn (some b)) := by
  unfold State.tickTest; split <;> simp

/-! The updates that take a returned value. -/

theorem commitCtx_cases (s : State) : s.commitCtx = s ∨ ∃ c, s.ret = .ctx c ∧ s.commitCtx = { s with ctx := c } := by
  unfold State.commitCtx; split <;> simp_all

theorem storeNv_cases (s : State) : s.storeNv = s ∨ ∃ g, s.ret = .image g ∧ s.storeNv = { s with nvShadow := g } := by
  unfold State.storeNv; split <;> simp_all

theorem storeV_cases (s : State) : s.storeV = s ∨ ∃ g, s.ret = .image g ∧ s.storeV = { s with vShadow := g } := by
  unfold State.storeV; split <;> simp_all

/-! The steps that issue something. -/

theorem makes_of_mapCall {i : Instr} {c : MmCall} {s t : State} (hc : MakesMapCall s.params i c)
    (h : issueMm (.op i) c s = .next t) : Makes s (.op i) t := by
  obtain ⟨hb, rfl | rfl | rfl⟩ := issueMm_eq_next h
  · exact .mapWaits hb
  · exact .mapFailed hb hc
  · exact .mapDone hb hc

theorem makes_of_plain {m : Micro} {f : Frame} {onOk onFail : List Micro} {s t : State}
    (hf : IssuesPlain s.params s.ctx m f onOk onFail) (h : issuePlain m f onOk onFail s = .next t) : Makes s m t := by
  obtain ⟨hb, rfl | rfl | ⟨l, rfl⟩⟩ := issuePlain_eq_next h
  · exact .waits (by cases hf <;> rfl) hb
  · exact .plainFailed hb hf
  · exact .plainSent hb hf

/-- Everything an instruction in waiting can do. -/
theorem makes_of_exec {i : Instr} {s t : State} (h : exec i s = .next t) : Makes s (.op i) t := by
  rcases instr_kinds i with hi | hi | ⟨c, rfl⟩ | ⟨g, rfl⟩ | ⟨w, d, c, rfl⟩ | rfl | ⟨l, v, rfl⟩ | ⟨tw, rfl⟩ |
    ⟨tr, rfl⟩ | rfl
  · obtain ⟨hb, f, hf, rfl | rfl | ⟨l, hl, rfl⟩⟩ := wire_eq_next hi h
    · exact .waits hi hb
    · exact .failed hb (.first hi hf)
    · exact .sent hb (.first hi hf) hl
  · obtain ⟨_, hb, rfl⟩ := host_eq_next hi h
    exact .takes hi hb
  · cases h; exact .returns (.image c)
  · cases h; exact .returns (.record g)
  · cases h
    split
    · exact .returns (.ctx (by assumption))
    · exact .returns (.configError w d c)
  · obtain ⟨_, rfl⟩ := unlessHalted_eq_next h
    exact .deinit
  · change execLine l v s = _ at h
    unfold execLine at h
    split at h
    · cases h
    · split at h
      · cases h
      · cases h; exact .line l v
  · exact makes_of_mapCall (.setWrite tw) h
  · exact makes_of_mapCall (.setRead tr) h
  · exact makes_of_mapCall .enable h

theorem makes_of_second {i : Instr} {s t : State} (h : secondStep i s = .next t) : Makes s (.second i) t := by
  obtain ⟨_, rfl⟩ | ⟨hb, f, hf, rfl | rfl | ⟨l, hl, rfl⟩⟩ := secondStep_eq_next h
  · exact .passes rfl
  · exact .waits rfl hb
  · exact .failed hb (.second hf)
  · exact .sent hb (.second hf) hl

theorem makes_of_exitWindow {s t : State} (h : exitWindowStep s = .next t) : Makes s .exitWindow t := by
  unfold exitWindowStep at h
  split at h
  · exact makes_of_plain .exitWindow h
  · rename_i hw
    cases h; exact .closed (Bool.eq_false_of_not_eq_true hw)

/-- Everything a step in waiting can do, said once. -/
theorem makes_of_runMicro {m : Micro} {s t : State} (h : runMicro m s = .next t) : Makes s m t := by
  cases m with
  | op i => exact makes_of_exec h
  | second i => exact makes_of_second h
  | exitWindow => exact makes_of_exitWindow h
  | exitWrite => exact makes_of_plain .exitWrite h
  | disableWrite => exact makes_of_plain .disableWrite h
  | bulkVerify =>
    change bulkVerifyStep s = _ at h
    unfold bulkVerifyStep at h
    split at h
    · cases h; exact .passes rfl
    · cases h
  | commitCtx =>
    cases h
    obtain e | ⟨c, hc, e⟩ := commitCtx_cases s <;> rw [e]
    · exact .passes rfl
    · exact .writes (.commitCtx hc)
  | storeNv =>
    cases h
    obtain e | ⟨g, hg, e⟩ := storeNv_cases s <;> rw [e]
    · exact .passes rfl
    · exact .writes (.storeNv hg)
  | storeV =>
    cases h
    obtain e | ⟨g, hg, e⟩ := storeV_cases s <;> rw [e]
    · exact .passes rfl
    · exact .writes (.storeV hg)
  | checkReady =>
    cases h
    obtain e | e := checkReady_cases s <;> rw [e]
    · exact .passes rfl
    · exact .raises .checkReady
  | checkProtect want =>
    cases h
    obtain e | e := checkProtect_cases s want <;> rw [e]
    · exact .passes rfl
    · exact .raises (.checkProtect want)
  | verify x =>
    cases h
    obtain e | e := verify_cases s x <;> rw [e]
    · exact .passes rfl
    · exact .raises (.verify x)
  | pollTest bound =>
    cases h
    obtain e | ⟨ms, hms, e⟩ := pollTest_cases s bound <;> rw [e]
    · exact .passes rfl
    · exact .polls hms
  | tickTest b =>
    cases h
    obtain e | e := tickTest_cases s b <;> rw [e]
    · exact .raises (.tickTest b)
    · exact .polls (.turn b)
  | advance => cases h; exact .writes .advance
  | enterReset => cases h; exact .writes .enterReset
  | enterError => cases h; exact .writes .enterError
  | clearMm => cases h; exact .writes .clearMm
  | setMm => cases h; exact .writes .setMm
  | defaultCtx => cases h; exact .writes .defaultCtx
  | takePins => cases h; exact .writes .takePins
  | givePins => cases h; exact .writes .givePins
  | startTimer => cases h; exact .writes .startTimer
  | openWindow => cases h; exact .writes .openWindow
  | closeWindow => cases h; exact .writes .closeWindow
  | conclude => cases h; exact .writes .conclude
  | setRes r => cases h; exact .writes (.setRes r)
  | reinit => cases h; exact .reinit
  | readTick => cases h; exact .reads
  | clearBlk => cases h; exact .clears
  | gather => cases h; exact .gathers
  | enterFatal => cases h; exact .halts
  | giveRsp d => cases h; exact .responds d

/-! ## What a step can do -/

/-- The state before a step of the agenda is the popped state with the step put back. -/
theorem eq_push_of_agenda {s : State} {m : Micro} {rest : List Micro} (ha : s.agenda = m :: rest) :
    s = ({ s with agenda := rest } : State).push [m] := by
  cases s
  cases ha
  rfl

/-- Everything a step without hardware reset can do: wait for the host, take a command, serve a window access, make the
next step in waiting (R5, R64, R300). -/
inductive Steps (s : State) : State → Prop
  | rests (ha : s.agenda = []) : Steps s s
  | takes {w : CmdWord} {more : List HostReq} {i : Instr} (ha : s.agenda = []) (hi : i.isHost = true)
      (hb : s.busy = false) (hin : s.inbox = .cmd w :: more) (hd : decode s.params (.command w) = .ok i) :
      Steps s { s with inbox := more, events := s.events ++ [.cmd i], cmd := some i,
                       agenda := hostProgram s.params s.ctx i, err := none }
  | serves (ha : s.agenda = []) (hb : s.busFree) (more : List HostReq) (f : Frame) : Steps s (s.windowBang more f)
  | makes {m : Micro} {rest : List Micro} {t : State} (ha : s.agenda = m :: rest)
      (h : Makes { s with agenda := rest } m t) : Steps s t

theorem steps_of_step {s t : State} (hr : s.resetIn = false) (h : step s = .next t) : s.seq ≠ .fatal ∧ Steps s t := by
  obtain ⟨hf, ⟨ha, rfl⟩ | ⟨ha, w, more, i, hin, hd, he⟩ | ⟨ha, hb, more, f, rfl⟩ | ⟨m, rest, ha, hm⟩⟩ :=
    step_eq_next hr h
  · exact ⟨hf, .rests ha⟩
  · have hi := isHost_of_decodeCommand hd
    obtain ⟨_, hb, rfl⟩ := host_eq_next hi he
    exact ⟨hf, .takes ha hi hb hin hd⟩
  · exact ⟨hf, .serves ha hb more f⟩
  · exact ⟨hf, .makes ha (makes_of_runMicro hm)⟩

end Sys2Proof.Machine

/-! What every step leaves unchanged: the nine registers but at their own steps (10_state.md R20), the host's requests
while a command runs (60_exceptions.md R300), and the history but for one event. -/

namespace Sys2Proof.Machine

open Sys2Proof

/-! ## Registers -/

/-- The nine registers of R20 and the parameters are the same in two states. -/
structure SameRegisters (s t : State) : Prop where
  ctx       : t.ctx = s.ctx
  seq       : t.seq = s.seq
  res       : t.res = s.res
  nvShadow  : t.nvShadow = s.nvShadow
  vShadow   : t.vShadow = s.vShadow
  pollStart : t.pollStart = s.pollStart
  pinOwner  : t.pinOwner = s.pinOwner
  mm        : t.mm = s.mm
  privWin   : t.privWin = s.privWin
  params    : t.params = s.params

/-- A step in waiting writes a register only as one of the updates of `Writes`, or as the halt (R20, R286). -/
theorem registers_of_makes {s t : State} {m : Micro} (h : Makes s m t) :
    Writes s m t ∨ (m = .enterFatal ∧ t = s.halt) ∨ SameRegisters s t := by
  cases h with
  | writes h => exact .inl h
  | halts => exact .inr (.inl ⟨rfl, rfl⟩)
  | _ => exact .inr (.inr (by constructor <;> simp))

/-- A step that is none of the agenda writes no register: commands are taken and window accesses served without one
(R64, R172). -/
theorem registers_of_steps {s t : State} (h : Steps s t) :
    SameRegisters s t ∨
      ∃ m rest, s.agenda = m :: rest ∧
        (Writes { s with agenda := rest } m t ∨ (m = .enterFatal ∧ t = State.halt { s with agenda := rest })) := by
  cases h with
  | rests | takes => exact .inl (by constructor <;> rfl)
  | serves ha hb more f =>
    refine .inl ?_
    unfold State.windowBang
    split <;> constructor <;> rfl
  | @makes m rest t ha h =>
    rcases registers_of_makes h with h | h | h
    · exact .inr ⟨m, rest, ha, .inl h⟩
    · exact .inr ⟨m, rest, ha, .inr h⟩
    · exact .inl ⟨h.1, h.2, h.3, h.4, h.5, h.6, h.7, h.8, h.9, h.10⟩

/-- In a state of the invariant a step that writes `res` leaves only the response (R26, R286). -/
theorem onlyResponse_of_writesRes {s : State} {m : Micro} {rest : List Micro} (hi : s.Inv)
    (ha : s.agenda = m :: rest) (hm : m.writesRes = true) : ∃ d, rest = [.giveRsp d] := by
  have hlast := hi.last
  rw [ha, endOk, if_neg (by cases m <;> simp_all [Micro.writesRes, Micro.closes]), if_pos hm] at hlast
  unfold onlyResponse at hlast
  split at hlast
  · exact ⟨_, rfl⟩
  · cases hlast

/-- In a state of the invariant what follows on the step to ERROR is a result that is not Ok and the response (R211). -/
theorem onlyFailure_of_enterError {s : State} {rest : List Micro} (hi : s.Inv)
    (ha : s.agenda = .enterError :: rest) : ∃ k d, k ≠ .ok ∧ rest = [.setRes k, .giveRsp d] := by
  have hlast := hi.last
  simp only [ha, endOk, Micro.closes, Micro.writesRes, Bool.false_eq_true, if_false, if_true] at hlast
  unfold onlyFailure at hlast
  split at hlast
  · rename_i r d
    exact ⟨r, d, (by rintro rfl; cases hlast), rfl⟩
  · cases hlast

/-- Settles O50: a step that is no register update keeps all nine registers; each update writes the one that is its
own. -/
theorem registersChangeOnlyAtTheirSteps : Obligations.RegistersChangeOnlyAtTheirSteps := by
  intro s t hr h
  obtain ⟨_, hs⟩ := steps_of_step hr h
  rcases registers_of_steps hs with hk | ⟨m, rest, ha, hw | ⟨rfl, rfl⟩⟩
  case inl =>
    exact ⟨.inl hk.ctx, .inl hk.seq, .inl hk.res, fun _ hne => absurd hk.res hne, .inl hk.nvShadow, .inl hk.vShadow,
      .inl hk.pollStart, .inl hk.mm, .inl hk.pinOwner, .inl hk.privWin, hk.params⟩
  case inr.inr => simp [ha]
  case inr.inl =>
    have hres : m.writesRes = true → s.Inv → ∃ d, rest = [.giveRsp d] :=
      fun hm hi => onlyResponse_of_writesRes hi ha hm
    cases hw with
    | setRes r => simpa [ha] using fun hi _ => hres rfl hi
    | conclude => simpa [ha, State.concluded] using fun hi _ => hres rfl hi
    | commitCtx hc => simpa [ha] using .inr hc
    | storeNv hg => simpa [ha] using .inr hg
    | storeV hg => simpa [ha] using .inr hg
    | _ => simp [ha]

/-! ## The host's requests -/

theorem inbox_of_makes {s t : State} {m : Micro} (h : Makes s m t) : t.inbox = s.inbox := by
  cases h with
  | writes h => cases h <;> rfl
  | _ => simp

/-! ## The history -/

/-- A step in waiting adds at most one event, and a response only as the response step (R286). -/
theorem events_of_makes {s t : State} {m : Micro} (h : Makes s m t) :
    t.events = s.events ∨ ∃ e, t.events = s.events ++ [e] ∧
      ∀ r d, e = .rsp r d → ∃ w, m = .giveRsp w ∧ t = s.respond w := by
  cases h with
  | responds w => exact .inr ⟨.rsp s.res (s.rspData w), rfl, fun _ _ _ => ⟨w, rfl, rfl⟩⟩
  | writes h => cases h <;> exact .inl rfl
  | waits | mapWaits | returns | clears | gathers | passes | closed | polls | halts => exact .inl rfl
  | raises => exact .inl (by simp)
  | _ => exact .inr ⟨_, by simp; rfl, by simp⟩

end Sys2Proof.Machine

/-! The invariant (10_state.md R20 to R32, 60_exceptions.md R286 to R300): the programs of the host commands satisfy its
clauses about the steps in waiting, and every step keeps it. -/

namespace Sys2Proof.Machine

open Sys2Proof

/-! ## Neutral steps -/

/-- Steps that no clause of the invariant about the agenda looks at: they need the pins with the primitive and move
neither pins, window, `seq` nor memory map, and end nothing. -/
def Micro.neutral : Micro → Bool
  | .advance | .enterReset | .enterError | .enterFatal | .takePins | .givePins | .openWindow | .closeWindow
  | .exitWindow | .setMm | .setRes _ | .conclude | .giveRsp _ => false
  | .op (.line _ _) | .op (.mmSetWrite _) | .op (.mmSetRead _) | .op .mmEnable => false
  | .op i => !i.isHost
  | .second i => i.isWire
  | _ => true

theorem neutral_of_isWire {i : Instr} (hi : i.isWire = true) : (Micro.op i).neutral = true := by
  cases i with
  | line | mmSetWrite | mmSetRead | mmEnable => exact absurd hi Bool.false_ne_true
  | _ => simp [Micro.neutral, isHost_eq_false_of_isWire hi]

section Cons

variable {m : Micro} (hm : m.neutral = true)
include hm

theorem pinsOk_neutral_cons (o : PinOwner) (ms : List Micro) :
    pinsOk o (m :: ms) = (PinOwner.btp == o && pinsOk o ms) := by
  cases m with
  | op i => cases i <;> first | rfl | cases hm
  | takePins | givePins => cases hm
  | _ => rfl

theorem windowOk_neutral_cons (p : Bool) (ms : List Micro) : windowOk p (m :: ms) = windowOk p ms := by
  cases m with
  | op i => cases i <;> first | rfl | cases hm
  | openWindow | closeWindow | exitWindow | giveRsp | enterFatal => cases hm
  | _ => rfl

theorem seqOk_neutral_cons (q : Seq) (ms : List Micro) : seqOk q (m :: ms) = seqOk q ms := by
  cases m with
  | advance | enterReset | enterError | enterFatal | giveRsp => cases hm
  | _ => rfl

theorem mmapOk_neutral_cons (w r : Bool) (ms : List Micro) : mmapOk w r (m :: ms) = mmapOk w r ms := by
  cases m with
  | op i => cases i <;> first | rfl | cases hm
  | setMm => cases hm
  | _ => rfl

theorem endOk_neutral_cons (ms : List Micro) : endOk (m :: ms) = (!ms.isEmpty && endOk ms) := by
  cases m with
  | giveRsp | enterFatal | setRes | conclude | enterError => cases hm
  | _ => rfl

theorem legal_of_neutral : m.legal = true := by
  cases m with
  | op i => cases i <;> first | rfl | cases hm
  | second i => exact hm
  | _ => rfl

theorem movesSeq_of_neutral : m.movesSeq = false := by
  cases m with
  | advance | enterReset | enterError => cases hm
  | _ => rfl

theorem ne_openWindow_of_neutral : .openWindow ≠ m := by
  rintro rfl
  cases hm

end Cons

/-! ## Sound agendas -/

/-- The value of `seq` after a step (R24, R25). -/
def Micro.seqAfter (m : Micro) (q : Seq) : Seq :=
  match m with
  | .advance => q.succ
  | .enterReset => .reset
  | .enterError => .error
  | .enterFatal => .fatal
  | _ => q

/-- Whether the primitive holds a write template after a step that went well (R256). -/
def Micro.writeHeldAfter (m : Micro) (w : Bool) : Bool :=
  match m with
  | .op (.mmSetWrite _) => true
  | _ => w

/-- Whether the primitive holds a read template after a step that went well (R256). -/
def Micro.readHeldAfter (m : Micro) (r : Bool) : Bool :=
  match m with
  | .op (.mmSetRead _) => true
  | _ => r

/-- The clauses of the invariant about the steps in waiting of a running command together: for who owns the pins,
whether the window is open, the value of `seq`, and which templates the primitive holds. -/
structure Agenda (o : PinOwner) (p : Bool) (q : Seq) (w r : Bool) (ms : List Micro) : Prop where
  ne     : ms ≠ []
  legal  : ms.all Micro.legal = true
  pins   : pinsOk o ms = true
  window : windowOk p ms = true
  seq    : seqOk q ms = true
  last   : endOk ms = true
  mapOk  : mmapOk w r ms = true

section Agenda

variable {o : PinOwner} {p : Bool} {q : Seq} {w r : Bool} {m : Micro} {ms rest : List Micro}

/-! The two ends of a command. -/

theorem agenda_endProgram (hq : q.resting = true) (k : Result) (d : Bool) :
    Agenda .btp false q w r (endProgram k d) := by
  constructor <;> simp [endProgram, Micro.legal, pinsOk, Micro.pinsNeeded, Micro.pinsAfter, windowOk,
    Micro.needsClosed, Micro.windowAfter, seqOk, hq, endOk, Micro.closes, Micro.writesRes, onlyResponse, mmapOk]

theorem agenda_cleanupProgram (hq : q.resting = true) : Agenda .btp p q w r cleanupProgram := by
  constructor <;> simp [cleanupProgram, Micro.legal, pinsOk, Micro.pinsNeeded, Micro.pinsAfter, windowOk,
    Micro.needsClosed, Micro.windowAfter, seqOk, hq, endOk, Micro.closes, Micro.writesRes, onlyResponse, mmapOk]

theorem agenda_enterError {k : Failure} : Agenda .btp false q w r (.enterError :: endProgram k.toResult false) := by
  cases k <;> constructor <;> first | rfl | simp

theorem agenda_enterFatal : Agenda .btp false q w r [.enterFatal] := by
  constructor <;> first | rfl | simp

/-! One step before a sound agenda. -/

theorem Agenda.cons {o' : PinOwner} {p' : Bool} {q' : Seq} (h : Agenda o' p' q' w r ms) (hlegal : m.legal = true)
    (hpins : pinsOk o (m :: ms) = pinsOk o' ms) (hwindow : windowOk p (m :: ms) = windowOk p' ms)
    (hseq : seqOk q (m :: ms) = seqOk q' ms) (hlast : endOk (m :: ms) = (!ms.isEmpty && endOk ms))
    (hmap : mmapOk w r (m :: ms) = mmapOk w r ms) : Agenda o p q w r (m :: ms) where
  ne := List.cons_ne_nil m ms
  legal := by rw [List.all_cons, hlegal, h.legal]; rfl
  pins := hpins.trans h.pins
  window := hwindow.trans h.window
  seq := hseq.trans h.seq
  last := by rw [hlast, h.last, List.isEmpty_eq_false_iff.2 h.ne]; rfl
  mapOk := hmap.trans h.mapOk

theorem Agenda.neutral (hm : m.neutral = true) (h : Agenda .btp p q w r ms) : Agenda .btp p q w r (m :: ms) :=
  h.cons (legal_of_neutral hm) (pinsOk_neutral_cons hm .btp ms) (windowOk_neutral_cons hm p ms)
    (seqOk_neutral_cons hm q ms) (endOk_neutral_cons hm ms) (mmapOk_neutral_cons hm w r ms)

theorem Agenda.neutral_append (hms : ms.all Micro.neutral = true) (h : Agenda .btp p q w r rest) :
    Agenda .btp p q w r (ms ++ rest) := by
  induction ms with
  | nil => exact h
  | cons m ms ih =>
    rw [List.all_cons, Bool.and_eq_true] at hms
    exact (ih hms.2).neutral hms.1

theorem Agenda.advance (h : Agenda .btp p q.succ w r ms) : Agenda .btp p q w r (.advance :: ms) :=
  h.cons rfl rfl rfl rfl rfl rfl

theorem Agenda.enterReset (h : Agenda .btp p .reset w r ms) : Agenda .btp p q w r (.enterReset :: ms) :=
  h.cons rfl rfl rfl rfl rfl rfl

theorem Agenda.openWindow (h : Agenda .btp true q w r ms) : Agenda .btp p q w r (.openWindow :: ms) :=
  h.cons rfl rfl rfl rfl rfl rfl

theorem Agenda.closeWindow (h : Agenda .btp false q w r ms) : Agenda .btp p q w r (.closeWindow :: ms) :=
  h.cons rfl rfl rfl rfl rfl rfl

theorem Agenda.takePins (h : Agenda .seq p q w r ms) : Agenda .btp p q w r (.takePins :: ms) :=
  h.cons rfl rfl rfl rfl rfl rfl

theorem Agenda.givePins (h : Agenda .btp p q w r ms) : Agenda .seq p q w r (.givePins :: ms) :=
  h.cons rfl rfl rfl rfl rfl rfl

theorem Agenda.line (l : SignalLine) (v : Bool) (h : Agenda .seq p q w r ms) :
    Agenda .seq p q w r (.op (.line l v) :: ms) :=
  h.cons rfl rfl rfl rfl rfl rfl

/-! The steps left when one has been made. -/

theorem seqOk_tail (hc : m.closes = false) (h : seqOk q (m :: ms) = true) : seqOk (m.seqAfter q) ms = true := by
  cases m with
  | giveRsp | enterFatal => cases hc
  | _ => exact h

theorem mmapOk_tail (h : mmapOk w r (m :: ms) = true) :
    mmapOk (m.writeHeldAfter w) (m.readHeldAfter r) ms = true := by
  cases m with
  | op i => cases i <;> exact h
  | setMm =>
    simp only [mmapOk, Bool.and_eq_true] at h
    exact h.2
  | _ => exact h

theorem endOk_tail (hc : m.closes = false) (h : endOk (m :: ms) = true) : ms ≠ [] ∧ endOk ms = true := by
  rw [endOk, if_neg (by simp [hc])] at h
  split at h
  · unfold onlyResponse at h
    split at h
    · exact ⟨by simp, rfl⟩
    · cases h
  split at h
  · unfold onlyFailure at h
    split at h
    · exact ⟨by simp, rfl⟩
    · cases h
  · simpa using h

/-- What is left after a step other than the last is sound for what the step leaves. -/
theorem Agenda.tail (h : Agenda o p q w r (m :: ms)) (hc : m.closes = false) :
    Agenda (m.pinsAfter o) (m.windowAfter p) (m.seqAfter q) (m.writeHeldAfter w) (m.readHeldAfter r) ms := by
  obtain ⟨hne, hlast⟩ := endOk_tail hc h.last
  have hlegal := h.legal
  have hpins := h.pins
  have hwindow := h.window
  rw [List.all_cons, Bool.and_eq_true] at hlegal
  rw [pinsOk, Bool.and_eq_true] at hpins
  rw [windowOk, Bool.and_eq_true] at hwindow
  exact ⟨hne, hlegal.2, hpins.2, hwindow.2, seqOk_tail hc h.seq, hlast, mmapOk_tail h.mapOk⟩

theorem Agenda.pinsNeeded (h : Agenda o p q w r (m :: ms)) : m.pinsNeeded = o := by
  have hpins := h.pins
  rw [pinsOk, Bool.and_eq_true, beq_iff_eq] at hpins
  exact hpins.1

theorem Agenda.eq_nil_of_closes (h : Agenda o p q w r (m :: ms)) (hc : m.closes = true) : ms = [] := by
  have hlast := h.last
  rw [endOk, if_pos hc] at hlast
  simpa using hlast

end Agenda

/-! ## The programs of the host commands -/

theorem writeBlock_neutral (sp : ConfigSpace) (img : Image) (skip : List SubregIndex) :
    (writeBlock sp img skip).all Micro.neutral = true := by
  rw [writeBlock, List.all_map, List.all_eq_true]
  cases sp <;> exact fun _ _ => rfl

theorem readBlock_neutral (P : Params) (sp : ConfigSpace) (skip : List SubregIndex) :
    (readBlock P sp skip).all Micro.neutral = true := by
  rw [readBlock, List.all_append, List.all_flatMap]
  cases sp <;> simp [Micro.neutral, ConfigSpace.readCmd, Instr.isHost, encodeCommand]

theorem selectRead_neutral (c : Ctx) (a : Address) (n : Length) : (Micro.op (selectRead c a n)).neutral = true := by
  unfold selectRead
  cases c.rop <;> rfl

theorem selectWrite_neutral (c : Ctx) (a : Address) (v : List Byte) :
    (Micro.op (selectWrite c a v)).neutral = true := by
  unfold selectWrite
  cases c.wop <;> rfl

/-- The rest of a bus reset: the pins are taken, the lines moved, the pins given back (R268, R269). -/
theorem agenda_busResetProgram {p : Bool} {q : Seq} {w r : Bool} {ms : List Micro} (P : Params)
    (h : Agenda .btp p q w r ms) : Agenda .btp p q w r (busResetProgram P ++ ms) := by
  have hlines (ps : List (SignalLine × Bool)) :
      Agenda .seq p q w r (ps.map (fun x => .op (.line x.1 x.2)) ++ (.givePins :: .reinit :: ms)) := by
    induction ps with
    | nil => exact .givePins (h.neutral rfl)
    | cons x ps ih => exact ih.line x.1 x.2
  simp only [busResetProgram, toggleProgram, List.append_assoc, List.cons_append, List.nil_append]
  exact .takePins (hlines P.resetSeq)

section Programs

variable {q : Seq} {w r : Bool}

theorem agenda_verifyPhase (P : Params) : Agenda .btp false .selectMode w r (verifyPhase P) := by
  have hready : Agenda .btp false .verifyVolatile w r stepsReady := .advance (agenda_endProgram rfl _ _)
  have hv (sp : ConfigSpace) (e : Expected) {q : Seq} {rest : List Micro} (h : Agenda .btp false q.succ w r rest) :
      Agenda .btp false q w r (stepsVerify P sp e ++ rest) := by
    rw [stepsVerify, List.cons_append, List.append_assoc]
    exact .advance (.neutral_append (readBlock_neutral P sp []) (h.neutral rfl))
  exact .advance (.neutral rfl (.neutral rfl (.neutral rfl (hv _ _ (hv _ _ hready)))))

theorem agenda_bringupProgram (P : Params) (cfg : Record) (n : Nat) (dtr : Bool) :
    Agenda .btp false q w r (bringupProgram P cfg n dtr) := by
  simp only [bringupProgram, stepsReset, programPhase, stepsEnableWrite, stepsNvImage, stepsVImage, stepsSelectMode,
    List.append_assoc, List.cons_append, List.nil_append]
  have hselect : Agenda .btp false .programVolatile w r
      (.advance :: .op (.derive n dtr cfg) :: .commitCtx :: verifyPhase P) :=
    .advance (.neutral rfl (.neutral rfl (agenda_verifyPhase P)))
  exact .enterReset (.neutral rfl (.neutral rfl (.neutral rfl (.advance (.neutral rfl (.neutral rfl
    (.advance (.neutral rfl (.neutral rfl (.neutral_append (writeBlock_neutral ..)
      (.advance (.neutral rfl (.neutral rfl (.neutral_append (writeBlock_neutral ..) hselect))))))))))))))

theorem agenda_initProgram (P : Params) (cfg : Record) (n : Nat) (dtr : Bool) :
    Agenda .btp false q w r (initProgram P cfg n dtr) := by
  unfold initProgram
  split
  · exact agenda_enterError (k := .config)
  · exact agenda_bringupProgram P cfg n dtr

theorem agenda_reprov (hq : q.resting = true) (P : Params) :
    Agenda .btp false q w r (reprovBody P ++ cleanupProgram) := by
  have hprotect : Agenda .btp true q w r (stepsProtect P.bpMask ++ (stepsProtect 0 ++ (stepsRp9 ++ cleanupProgram))) :=
    .neutral_append rfl (.neutral_append rfl (.neutral_append rfl (agenda_cleanupProgram hq)))
  have hread (sp : ConfigSpace) (img : Image) (skip : List SubregIndex) {rest : List Micro}
      (h : Agenda .btp true q w r rest) : Agenda .btp true q w r (stepsRp6 P sp img skip ++ rest) := by
    rw [stepsRp6, List.append_assoc]
    exact .neutral_append (readBlock_neutral P sp skip) (h.neutral rfl)
  simp only [reprovBody, stepsRp2, stepsRp3, stepsRp4, stepsRp5, List.append_assoc, List.cons_append, List.nil_append]
  exact .neutral rfl (.neutral rfl (.openWindow (.neutral rfl (.neutral_append (writeBlock_neutral ..)
    (.neutral_append (writeBlock_neutral ..) (.neutral rfl (hread _ _ _ (hread _ _ _ hprotect))))))))

theorem agenda_pollProgram (hq : q.resting = true) (P : Params) (n : Nat) :
    Agenda .btp false q w r (pollProgram P n) := by
  have hend := agenda_endProgram (w := w) (r := r) hq
  unfold pollProgram
  split
  · exact hend _ _
  split
  · exact .neutral_append rfl (hend _ _)
  · exact .neutral_append rfl (hend _ _)

theorem agenda_mmapProgram (hq : q.resting = true) (P : Params) (c : Ctx) :
    Agenda .btp false q w r (mmapProgram P c) := by
  constructor <;> simp [mmapProgram, endProgram, Micro.legal, Instr.isHost, encodeCommand, pinsOk, Micro.pinsNeeded,
    Micro.pinsAfter, windowOk, Micro.needsClosed, Micro.windowAfter, seqOk, hq, endOk, Micro.closes,
    Micro.writesRes, onlyResponse, mmapOk]

/-- Taken in a resting state with the pins and the window closed, every host command has a sound program. -/
theorem agenda_hostProgram {i : Instr} (hi : i.isHost = true) (hq : q.resting = true) (P : Params) (c : Ctx) :
    Agenda .btp false q w r (hostProgram P c i) := by
  have hend := agenda_endProgram (w := w) (r := r) hq
  cases i with
  | init cfg n dtr => exact agenda_initProgram P cfg n dtr
  | reprov => exact agenda_reprov hq P
  | read a n => exact (hend _ _).neutral (selectRead_neutral c a n)
  | write a v => exact (hend _ _).neutral (selectWrite_neutral c a v)
  | eraseChip => exact .neutral_append rfl (hend _ _)
  | readId | readStatus | readFlags | clearFlags => exact (hend _ _).neutral rfl
  | poll n => exact agenda_pollProgram hq P n
  | mmap => exact agenda_mmapProgram hq P c
  | reservedCmd => exact hend _ _
  | _ => exact absurd hi Bool.false_ne_true

end Programs

/-! Which commands open the window and move `seq`. -/

theorem not_mem_of_neutral {ms : List Micro} (h : ms.all Micro.neutral = true) : .openWindow ∉ ms :=
  fun hm => ne_openWindow_of_neutral (List.all_eq_true.1 h _ hm) rfl

theorem not_movesSeq_of_neutral {ms : List Micro} (h : ms.all Micro.neutral = true) :
    ms.any Micro.movesSeq = false :=
  List.any_eq_false.2 fun m hm => by simp [movesSeq_of_neutral (List.all_eq_true.1 h m hm)]

/-- Only `reProvision` opens the window (R294). -/
theorem eq_reprov_of_openWindow_mem {P : Params} {c : Ctx} {i : Instr} (h : .openWindow ∈ hostProgram P c i) :
    i = .reprov := by
  have hwrite (sp img skip) := not_mem_of_neutral (writeBlock_neutral sp img skip)
  have hread (sp skip) := not_mem_of_neutral (readBlock_neutral P sp skip)
  cases i with
  | reprov => rfl
  | init cfg n dtr =>
    simp only [hostProgram, initProgram] at h
    split at h
    · simp [endProgram] at h
    · simp [bringupProgram, stepsReset, programPhase, stepsEnableWrite, stepsNvImage, stepsVImage, stepsSelectMode,
        verifyPhase, stepsVerifyStatus, stepsVerify, stepsReady, endProgram, hwrite, hread] at h
  | poll n =>
    simp only [hostProgram, pollProgram] at h
    split_ifs at h <;> simp [endProgram, pollTurn] at h
  | eraseChip => simp [hostProgram, eraseProgram, pollTurn, endProgram] at h
  | mmap => simp [hostProgram, mmapProgram, endProgram] at h
  | _ => simp [hostProgram, endProgram] at h

/-- Only bring-up moves `seq` (R25). -/
theorem isInit_of_movesSeq {P : Params} {c : Ctx} {i : Instr} (h : (hostProgram P c i).any Micro.movesSeq = true) :
    isInit (some i) = true := by
  have hwrite (sp img skip) := not_movesSeq_of_neutral (writeBlock_neutral sp img skip)
  have hread (sp skip) := not_movesSeq_of_neutral (readBlock_neutral P sp skip)
  cases i with
  | init => rfl
  | reprov =>
    simp only [hostProgram, reprovBody, stepsRp2, stepsRp3, stepsRp4, stepsRp5, stepsRp6, stepsProtect, stepsRp9,
      List.any_append, hwrite, hread] at h
    exact absurd h Bool.false_ne_true
  | poll n =>
    simp only [hostProgram, pollProgram] at h
    split_ifs at h <;> exact absurd h Bool.false_ne_true
  | _ => exact absurd h (by simp [hostProgram, eraseProgram, pollTurn, mmapProgram, endProgram, Micro.movesSeq])

end Sys2Proof.Machine

/-! Every step keeps the invariant: its two halves, the values of the registers and the running command, one after the
other (10_state.md R20 to R32, 60_exceptions.md R286 to R300). -/

namespace Sys2Proof.Machine

open Sys2Proof

/-! ## The two halves of the invariant -/

/-- The half of the invariant about the values the registers hold. -/
structure State.Values (s : State) : Prop where
  ctx    : s.ctx.derived s.params
  ret    : ∀ c, s.ret = .ctx c → c.derived s.params
  ticks  : s.pollStart < 2 ^ s.params.tickW ∧ s.now < 2 ^ s.params.tickW
  images : s.nvShadow.length = s.params.regBlockLen ∧ s.vShadow.length = s.params.regBlockLen ∧
    ∀ img, s.ret = .image img → img.length = s.params.regBlockLen
  mapped : s.mm = true → s.primWrite.isSome = true ∧ s.primRead.isSome = true

/-- The half of the invariant about a running command. -/
structure State.Running (s : State) : Prop where
  agenda : Agenda s.pinOwner s.privWin s.seq s.primWrite.isSome s.primRead.isSome s.agenda
  opener : (s.privWin = true ∨ .openWindow ∈ s.agenda) → s.cmd = some .reprov
  mover  : (s.seq.resting = false ∨ s.agenda.any Micro.movesSeq = true) → isInit s.cmd = true
  cmd    : s.cmd ≠ none
  fatal  : s.seq ≠ .fatal

theorem State.Inv.values {s : State} (h : s.Inv) : s.Values := ⟨h.ctx, h.ret, h.ticks, h.images, h.mapped⟩

theorem State.Inv.running {s : State} (h : s.Inv) (ha : s.agenda ≠ []) : s.Running :=
  have hc : s.cmd ≠ none := fun hc => ha (h.idle.1 hc)
  ⟨⟨ha, h.legal, h.pins, h.window, h.seq, h.last, h.mapOk⟩, h.opener, h.mover, hc, fun hf => hc (h.fatal hf)⟩

/-- A running command and sound values are the invariant. -/
theorem State.Running.inv {s : State} (h : s.Running) (hv : s.Values) : s.Inv where
  ctx := hv.ctx
  ret := hv.ret
  legal := h.agenda.legal
  pins := h.agenda.pins
  window := h.agenda.window
  opener := h.opener
  seq := h.agenda.seq
  mover := h.mover
  idle := ⟨fun hc => absurd hc h.cmd, fun ha => absurd ha h.agenda.ne⟩
  last := h.agenda.last
  fatal := fun hf => absurd hf h.fatal
  ticks := hv.ticks
  images := hv.images
  mapOk := h.agenda.mapOk
  mapped := hv.mapped

/-- What the invariant says of a block in which no command runs. -/
structure State.Closed (s : State) : Prop where
  agenda   : s.agenda = []
  cmd      : s.cmd = none
  pinOwner : s.pinOwner = .btp
  privWin  : s.privWin = false
  seq      : s.seq.resting = true

theorem State.Inv.closed {s : State} (h : s.Inv) (ha : s.agenda = []) : s.Closed where
  agenda := ha
  cmd := h.idle.2 ha
  pinOwner := by simpa [ha, pinsOk] using h.pins
  privWin := by simpa [ha, windowOk] using h.window
  seq := by simpa [ha, seqOk] using h.seq

theorem State.Closed.not_busy {s : State} (h : s.Closed) : s.busy = false := by
  simp [State.busy, h.cmd, h.agenda, h.seq]

/-- A closed block with sound values satisfies the invariant. -/
theorem State.Closed.inv {s : State} (h : s.Closed) (hv : s.Values) : s.Inv where
  ctx := hv.ctx
  ret := hv.ret
  legal := by rw [h.agenda]; rfl
  pins := by rw [h.agenda, h.pinOwner]; rfl
  window := by rw [h.agenda, h.privWin]; rfl
  opener := by simp [h.agenda, h.privWin]
  seq := by rw [h.agenda]; exact h.seq
  mover := by simp [h.agenda, h.seq]
  idle := ⟨fun _ => h.agenda, fun _ => h.cmd⟩
  last := by rw [h.agenda]; rfl
  fatal := fun _ => h.cmd
  ticks := hv.ticks
  images := hv.images
  mapOk := by rw [h.agenda]; rfl
  mapped := hv.mapped

/-! ## A running command goes on -/

section Running

variable {s t : State} {m : Micro}

theorem Seq.succ_ne_fatal {q : Seq} (h : q ≠ .fatal) : q.succ ≠ .fatal := by
  cases q <;> first | exact absurd rfl h | decide

/-- The command runs on when a step other than its last is made and leaves pins, window, `seq` and templates as the step
should. -/
theorem State.Running.after (h : (s.push [m]).Running) (hc : m.closes = false) (ha : t.agenda = s.agenda)
    (hcmd : t.cmd = s.cmd) (hpins : t.pinOwner = m.pinsAfter s.pinOwner) (hwin : t.privWin = m.windowAfter s.privWin)
    (hseq : t.seq = m.seqAfter s.seq) (hwrite : t.primWrite.isSome = m.writeHeldAfter s.primWrite.isSome)
    (hread : t.primRead.isSome = m.readHeldAfter s.primRead.isSome) : t.Running where
  agenda := by
    rw [hpins, hwin, hseq, hwrite, hread, ha]
    exact Agenda.tail h.agenda hc
  opener := by
    rw [hwin, ha, hcmd]
    rintro (hw | hw)
    · cases m with
      | openWindow => exact h.opener (.inr (List.mem_cons_self ..))
      | closeWindow | exitWindow => cases hw
      | _ => exact h.opener (.inl hw)
    · exact h.opener (.inr (List.mem_cons_of_mem _ hw))
  mover := by
    rw [hseq, ha, hcmd]
    rintro (hq | hq)
    · cases m with
      | advance | enterReset | enterError => exact h.mover (.inr rfl)
      | enterFatal => cases hc
      | _ => exact h.mover (.inl hq)
    · exact h.mover (.inr (by simp [hq]))
  cmd := hcmd ▸ h.cmd
  fatal := by
    rw [hseq]
    cases m with
    | advance => exact Seq.succ_ne_fatal h.fatal
    | enterReset | enterError => exact nofun
    | enterFatal => cases hc
    | _ => exact h.fatal

/-- Neutral steps put before the others. -/
theorem State.Running.push {ms : List Micro} (h : s.Running) (hp : s.pinOwner = .btp)
    (hms : ms.all Micro.neutral = true) : (s.push ms).Running where
  agenda := by
    have ha := h.agenda
    simp only [State.push_pinOwner, State.push_privWin, State.push_seq, State.push_primWrite, State.push_primRead,
      State.push_agenda]
    rw [hp] at ha ⊢
    exact ha.neutral_append hms
  opener := by
    simpa [not_mem_of_neutral hms] using h.opener
  mover := by
    simpa [not_movesSeq_of_neutral hms] using h.mover
  cmd := h.cmd
  fatal := h.fatal

/-- A failure of a running command, raised while the primitive owns the pins, leaves it running to its end (R286). -/
theorem State.Running.raise (h : (s.push [m]).Running) (hp : s.pinOwner = .btp) (k : Failure) :
    (s.raise k).Running := by
  have hrest (hi : isInit s.cmd = false) : s.seq.resting = true := by
    by_contra hq
    exact absurd (h.mover (.inl (Bool.eq_false_of_not_eq_true hq))) (by simp [hi])
  rcases raise_cases s k with ⟨hc, e⟩ | ⟨hc, e⟩ <;> rw [e]
  · refine ⟨?_, fun _ => hc, ?_, h.cmd, h.fatal⟩
    · rw [hp]
      exact agenda_cleanupProgram (hrest (by rw [hc]; rfl))
    · rintro (hq | hq)
      · exact h.mover (.inl hq)
      · cases hq
  · have hw : s.privWin = false := Bool.eq_false_of_not_eq_true fun hw => hc (h.opener (.inl hw))
    rcases failProgram_cases s.cmd k with ⟨hi, e⟩ | ⟨hi, e⟩ <;> rw [e]
    · refine ⟨?_, ?_, fun _ => hi, h.cmd, h.fatal⟩
      · rw [hp, hw]
        exact agenda_enterError
      · simp [hw, endProgram]
    · refine ⟨?_, ?_, ?_, h.cmd, h.fatal⟩
      · rw [hp, hw]
        exact agenda_endProgram (hrest hi) _ _
      · simp [hw, endProgram]
      · rw [hrest hi]
        simp [endProgram, Micro.movesSeq]

theorem State.Running.congr (h : s.Running) (ha : t.agenda = s.agenda) (hcmd : t.cmd = s.cmd)
    (hpins : t.pinOwner = s.pinOwner) (hwin : t.privWin = s.privWin) (hseq : t.seq = s.seq)
    (hwrite : t.primWrite = s.primWrite) (hread : t.primRead = s.primRead) : t.Running := by
  obtain ⟨h1, h2, h3, h4, h5⟩ := h
  rw [← ha, ← hpins, ← hwin, ← hseq, ← hwrite, ← hread] at h1
  rw [← ha, ← hcmd, ← hwin] at h2
  rw [← ha, ← hcmd, ← hseq] at h3
  exact ⟨h1, h2, h3, hcmd ▸ h4, hseq ▸ h5⟩

/-- A neutral step taken off. -/
theorem State.Running.pop (h : (s.push [m]).Running) (hm : m.neutral = true) : s.Running := by
  refine h.after ?_ rfl rfl ?_ ?_ ?_ ?_ ?_
  all_goals
    cases m with
    | op i => cases i <;> first | rfl | cases hm
    | advance | enterReset | enterError | enterFatal | takePins | givePins | openWindow | closeWindow | exitWindow
    | giveRsp => cases hm
    | _ => rfl

end Running

/-! ## What the steps that issue something need -/

theorem isWire_of_frameOf {P : Params} {c : Ctx} {i : Instr} {f : Frame} (h : frameOf P c i = some f) :
    i.isWire = true := by
  cases i <;> first
    | rfl
    | cases h

theorem isWire_of_isPair {i : Instr} (h : i.isPair = true) : i.isWire = true := by
  cases i <;> first
    | rfl
    | cases h

/-- A step that issues a frame is neutral, and so are the steps it adds. -/
theorem Issues.neutral {P : Params} {c : Ctx} {m : Micro} {f : Frame} {ms : List Micro} (h : Issues P c m f ms) :
    m.neutral = true ∧ ms.all Micro.neutral = true := by
  cases h with
  | @first i f hi hf =>
    refine ⟨neutral_of_isWire hi, ?_⟩
    split
    · exact List.all_eq_true.2 (by simpa [Micro.neutral] using hi)
    · rfl
  | second hf => exact ⟨isWire_of_frameOf hf, rfl⟩

theorem received_eq (s : State) (f : Frame) (l : List Byte) :
    s.received f l = { s with rx := if f.receives = true then l else s.rx } := by
  unfold State.received
  split <;> rfl

/-! ## What a step in waiting leaves -/

section Makes

variable {s t : State} {m : Micro}

theorem encodeImage_of_returns {P : Params} {i : Instr} {img : Image} (h : Returns P i (.image img)) :
    img.length = P.regBlockLen := by
  cases h
  exact encodeImage_length P _

theorem derived_of_returns {P : Params} {i : Instr} {c : Ctx} (h : Returns P i (.ctx c)) : c.derived P := by
  cases h with
  | ctx h => exact .inr ⟨_, _, _, h⟩

/-- Every register update stores a sound value; `mm` is set when the primitive holds both templates (R258). -/
theorem values_of_writes (hr : (s.push [m]).Running) (hv : s.Values) (h : Writes s m t) : t.Values := by
  obtain ⟨hctx, hret, hticks, himages, hmapped⟩ := hv
  cases h with
  | clearMm => exact ⟨hctx, hret, hticks, himages, nofun⟩
  | setMm =>
    have hmap := hr.agenda.mapOk
    simp only [State.push_agenda, List.cons_append, mmapOk, Bool.and_eq_true] at hmap
    exact ⟨hctx, hret, hticks, himages, fun _ => hmap.1⟩
  | defaultCtx => exact ⟨.inl rfl, hret, hticks, himages, hmapped⟩
  | commitCtx hc => exact ⟨hret _ hc, hret, hticks, himages, hmapped⟩
  | storeNv hg => exact ⟨hctx, hret, hticks, ⟨himages.2.2 _ hg, himages.2⟩, hmapped⟩
  | storeV hg => exact ⟨hctx, hret, hticks, ⟨himages.1, himages.2.2 _ hg, himages.2.2⟩, hmapped⟩
  | startTimer => exact ⟨hctx, hret, ⟨hticks.2, hticks.2⟩, himages, hmapped⟩
  | _ => exact ⟨hctx, hret, hticks, himages, hmapped⟩

/-- Every step in waiting keeps the values of the registers sound. -/
theorem values_of_makes (hr : (s.push [m]).Running) (hv : s.Values) (h : Makes s m t) : t.Values := by
  obtain ⟨hctx, hret, hticks, himages, hmapped⟩ := id hv
  cases h with
  | writes h => exact values_of_writes hr hv h
  | returns h =>
    refine ⟨hctx, ?_, hticks, ⟨himages.1, himages.2.1, ?_⟩, hmapped⟩
    · rintro c rfl
      exact derived_of_returns h
    · rintro img rfl
      exact encodeImage_of_returns h
  | reads => exact ⟨hctx, hret, ⟨hticks.1, tickAnswer_lt s⟩, himages, hmapped⟩
  | mapDone hb hc =>
    cases hc with
    | setWrite => exact ⟨hctx, hret, hticks, himages, fun hm => ⟨rfl, (hmapped hm).2⟩⟩
    | setRead => exact ⟨hctx, hret, hticks, himages, fun hm => ⟨(hmapped hm).1, rfl⟩⟩
    | enable => exact ⟨hctx, hret, hticks, himages, hmapped⟩
  | responds =>
    refine ⟨hctx, by simp, ⟨hticks.1, ?_⟩, ⟨himages.1, himages.2.1, by simp⟩, hmapped⟩
    exact Nat.two_pow_pos s.params.tickW
  | sent =>
    rw [received_eq]
    exact ⟨hctx, hret, hticks, himages, hmapped⟩
  | failed | raises => constructor <;> simpa
  | _ => exact ⟨hctx, hret, hticks, himages, hmapped⟩

/-- A register update that is not the last step leaves the command running. -/
theorem running_of_writes (hr : (s.push [m]).Running) (h : Writes s m t) : t.Running := by
  cases h <;> exact hr.after rfl rfl rfl rfl rfl rfl rfl rfl

theorem running_of_plain {f : Frame} {onOk onFail : List Micro} (hr : (s.push [m]).Running) (hb : s.busFree)
    (h : IssuesPlain s.params s.ctx m f onOk onFail) : (s.push onOk).Running ∧ (s.push onFail).Running := by
  cases h with
  | exitWrite => exact ⟨hr.pop rfl, hr.pop rfl⟩
  | disableWrite => exact ⟨hr.pop rfl, hr.pop rfl⟩
  | exitWindow =>
    have ha := hr.agenda.tail rfl
    have hp : s.pinOwner = .btp := hb.2
    have hclose : Agenda .btp s.privWin s.seq s.primWrite.isSome s.primRead.isSome (.closeWindow :: s.agenda) := by
      rw [State.push_pinOwner, hp] at ha
      exact ha.closeWindow
    refine ⟨⟨?_, ?_, ?_, hr.cmd, hr.fatal⟩, ⟨?_, ?_, ?_, hr.cmd, hr.fatal⟩⟩
    · rw [State.push_pinOwner, hp]
      exact hclose.neutral rfl
    · simpa using hr.opener
    · simpa [Micro.movesSeq] using hr.mover
    · rw [State.push_pinOwner, hp]
      exact hclose
    · simpa using hr.opener
    · simpa [Micro.movesSeq] using hr.mover

/-- A test is neutral, and so are the steps by which a poll goes on. -/
theorem PollsOn.neutral {ms : List Micro} (h : PollsOn m ms) : m.neutral = true ∧ ms.all Micro.neutral = true := by
  cases h <;> exact ⟨rfl, rfl⟩

theorem Raises.neutral {k : Failure} (h : Raises m k) : m.neutral = true := by
  cases h <;> rfl

theorem Returns.neutral {P : Params} {i : Instr} {r : Returned} (h : Returns P i r) : (Micro.op i).neutral = true := by
  cases h <;> rfl

theorem neutral_of_mayPass (hm : m.mayPass = true) (hl : m.legal = true) : m.neutral = true := by
  cases m <;> first
    | rfl
    | exact hl
    | cases hm

theorem legal_of_running (hr : (s.push [m]).Running) : m.legal = true := by
  have hlegal := hr.agenda.legal
  rw [State.push_agenda, List.cons_append, List.all_cons, Bool.and_eq_true] at hlegal
  exact hlegal.1

theorem btp_of_neutral (hr : (s.push [m]).Running) (hm : m.neutral = true) : s.pinOwner = .btp := by
  have hpins := hr.agenda.pins
  rw [State.push_agenda, List.cons_append, pinsOk_neutral_cons hm, Bool.and_eq_true, beq_iff_eq] at hpins
  exact hpins.1.symm

/-- The window is closed where a step needs it closed (R32). -/
theorem closed_of_needsClosed (hr : (s.push [m]).Running) (hm : m.needsClosed = true) : s.privWin = false := by
  have hwindow := hr.agenda.window
  rw [State.push_agenda, List.cons_append, windowOk, hm, Bool.and_eq_true] at hwindow
  simpa using hwindow.1

/-- After a failed memory-map call only the halt is left (R259). -/
theorem running_of_mapFailed {i : Instr} {c : MmCall} (hr : (s.push [.op i]).Running) (hb : s.busFree)
    (hc : MakesMapCall s.params i c) : ({ s with agenda := [.enterFatal] } : State).Running := by
  have hw : s.privWin = false := closed_of_needsClosed hr (by cases hc <;> rfl)
  refine ⟨?_, ?_, ?_, hr.cmd, hr.fatal⟩
  · rw [hb.2, hw]
    exact agenda_enterFatal
  · simp [hw]
  · rintro (hq | hq)
    · exact hr.mover (.inl hq)
    · cases hq

/-- After every step but the last the command still runs. -/
theorem running_of_makes (hr : (s.push [m]).Running) (hc : m.closes = false) (h : Makes s m t) : t.Running := by
  cases h with
  | waits | mapWaits => exact hr.congr rfl rfl rfl rfl rfl rfl rfl
  | @failed _ f _ hb hf =>
    have hu : ((s.drewBtp.emit (.btp f .fail)).push [m]).Running := hr.congr rfl rfl rfl rfl rfl rfl rfl
    exact hu.raise hb.2 _
  | sent hb hf =>
    rw [received_eq]
    exact ((hr.pop hf.neutral.1).push hb.2 hf.neutral.2).congr rfl rfl rfl rfl rfl rfl rfl
  | plainFailed hb hf => exact (running_of_plain hr hb hf).2.congr rfl rfl rfl rfl rfl rfl rfl
  | plainSent hb hf => exact (running_of_plain hr hb hf).1.congr rfl rfl rfl rfl rfl rfl rfl
  | mapFailed hb hm => exact (running_of_mapFailed hr hb hm).congr rfl rfl rfl rfl rfl rfl rfl
  | mapDone hb hm => cases hm <;> exact hr.after rfl rfl rfl rfl rfl rfl rfl rfl
  | takes hi =>
    have hl := legal_of_running hr
    rw [Micro.legal, hi] at hl
    cases hl
  | returns h => exact (hr.pop h.neutral).congr rfl rfl rfl rfl rfl rfl rfl
  | deinit =>
    have hp : s.pinOwner = .btp := btp_of_neutral hr rfl
    have hrest := hr.pop rfl
    have ha := hrest.agenda
    refine ⟨?_, ?_, ?_, hr.cmd, hr.fatal⟩
    · rw [hp] at ha
      simpa [hp] using agenda_busResetProgram s.params ha
    · simpa [busResetProgram, toggleProgram] using hrest.opener
    · simpa [busResetProgram, toggleProgram, Micro.movesSeq] using hrest.mover
  | line => exact hr.after rfl rfl rfl rfl rfl rfl rfl rfl
  | closed hw => exact hr.after rfl rfl rfl rfl hw rfl rfl rfl
  | reinit | reads | clears | gathers => exact (hr.pop rfl).congr rfl rfl rfl rfl rfl rfl rfl
  | writes h => exact running_of_writes hr h
  | passes hm => exact hr.pop (neutral_of_mayPass hm (legal_of_running hr))
  | raises h => exact hr.raise (btp_of_neutral hr h.neutral) _
  | polls h => exact (hr.pop h.neutral.1).push (btp_of_neutral hr h.neutral.1) h.neutral.2
  | halts | responds => cases hc

/-- After the last step of a command the block is closed again (R25, R32, R268, R288). -/
theorem closed_of_makes (hr : (s.push [m]).Running) (hc : m.closes = true) (h : Makes s m t) : t.Closed := by
  have hne : s.agenda = [] := hr.agenda.eq_nil_of_closes hc
  have hp : s.pinOwner = .btp := (hr.agenda.pinsNeeded.symm.trans (by cases m <;> first | rfl | cases hc))
  have hw : s.privWin = false := closed_of_needsClosed hr (by cases m <;> first | rfl | cases hc)
  cases h with
  | halts => exact ⟨rfl, rfl, hp, hw, rfl⟩
  | responds d =>
    have hseq := hr.agenda.seq
    simp only [State.push_agenda, State.push_seq, hne, List.append_nil, seqOk, Bool.and_eq_true] at hseq
    exact ⟨rfl, rfl, hp, hw, hseq.1⟩
  | waits hm => cases m <;> first | exact absurd hc Bool.false_ne_true | exact absurd hm Bool.false_ne_true
  | failed hb hf => cases hf <;> cases hc
  | sent hb hf => cases hf <;> cases hc
  | plainFailed hb hf => cases hf <;> cases hc
  | plainSent hb hf => cases hf <;> cases hc
  | writes h => cases h <;> cases hc
  | passes hm => cases m <;> first | exact absurd hc Bool.false_ne_true | exact absurd hm Bool.false_ne_true
  | raises h => cases h <;> cases hc
  | polls h => cases h <;> cases hc
  | _ => cases hc

/-- Every step in waiting keeps the invariant. -/
theorem inv_of_makes (hi : (s.push [m]).Inv) (h : Makes s m t) : t.Inv := by
  have hr : (s.push [m]).Running := hi.running (by simp)
  have hv : t.Values := values_of_makes hr ⟨hi.ctx, hi.ret, hi.ticks, hi.images, hi.mapped⟩ h
  cases hc : m.closes with
  | false => exact (running_of_makes hr hc h).inv hv
  | true => exact (closed_of_makes hr hc h).inv hv

end Makes

/-! ## What the other steps leave -/

/-- A host command taken by a closed block runs (R172, R300). -/
theorem running_of_taken {s : State} {i : Instr} (hs : s.Closed) (hf : s.seq ≠ .fatal) (hi : i.isHost = true)
    (P : Params) (c : Ctx) :
    ({ s with cmd := some i, agenda := hostProgram P c i } : State).Running where
  agenda := by
    rw [hs.pinOwner, hs.privWin]
    exact agenda_hostProgram hi hs.seq P c
  opener := by
    rintro (hw | hw)
    · rw [hs.privWin] at hw
      cases hw
    · rw [eq_reprov_of_openWindow_mem hw]
  mover := by
    rintro (hq | hq)
    · rw [hs.seq] at hq
      cases hq
    · exact isInit_of_movesSeq hq
  cmd := nofun
  fatal := hf

/-- Hardware reset closes the block, whatever it was doing (R40). -/
theorem inv_hwReset (s : State) : s.hwReset.Inv := by
  refine State.Closed.inv ⟨rfl, rfl, rfl, rfl, rfl⟩ ⟨.inl rfl, nofun, ⟨?_, ?_⟩, ⟨?_, ?_, nofun⟩, nofun⟩
  · exact Nat.two_pow_pos s.params.tickW
  · exact Nat.two_pow_pos s.params.tickW
  · exact List.length_replicate
  · exact List.length_replicate

/-- Every step without hardware reset keeps the invariant. -/
theorem inv_of_steps {s t : State} (hi : s.Inv) (hf : s.seq ≠ .fatal) (h : Steps s t) : t.Inv := by
  cases h with
  | rests => exact hi
  | takes ha hh hb =>
    have hv := hi.values
    have hr := running_of_taken (hi.closed ha) hf hh s.params s.ctx
    exact State.Running.inv ⟨hr.1, hr.2, hr.3, hr.4, hr.5⟩ ⟨hv.1, hv.2, hv.3, hv.4, hv.5⟩
  | serves ha hb more f =>
    have hv := hi.values
    have hc := hi.closed ha
    unfold State.windowBang
    split <;> exact State.Closed.inv ⟨hc.1, hc.2, hc.3, hc.4, hc.5⟩ ⟨hv.1, hv.2, hv.3, hv.4, hv.5⟩
  | makes ha h =>
    rw [eq_push_of_agenda ha] at hi
    exact inv_of_makes hi h

/-- Settles O52: hardware reset closes the block; every other step is one of `Steps`. -/
theorem stepKeepsTheInvariant : Obligations.StepKeepsTheInvariant := by
  intro s t hi h
  cases hr : s.resetIn with
  | true =>
    rw [step, if_pos hr] at h
    cases h
    exact inv_hwReset s
  | false =>
    obtain ⟨hf, hs⟩ := steps_of_step hr h
    exact inv_of_steps hi hf hs

/-- Settles O51: the state after reset is closed, and its values are those R40 and the parameters give. -/
theorem invariantHoldsAtReset : Obligations.InvariantHoldsAtReset := by
  refine State.Closed.inv ⟨rfl, rfl, rfl, rfl, rfl⟩ ⟨.inl rfl, nofun, ?_, ⟨?_, ?_, nofun⟩, nofun⟩
  · decide
  · exact List.length_replicate
  · exact List.length_replicate

/-- Settles O53. -/
theorem idleBlockIsClosed : Obligations.IdleBlockIsClosed := by
  intro s hi hc
  have hs : s.Closed := hi.closed (hi.idle.1 hc)
  exact ⟨hs.pinOwner, hs.privWin, hs.seq, hs.not_busy⟩

end Sys2Proof.Machine

/-! What every step does: where `seq` moves (10_state.md R25), that a step is made (60_exceptions.md R285), what a
response leaves (60_exceptions.md R286), that a second command waits (60_exceptions.md R300). -/

namespace Sys2Proof.Machine

open Sys2Proof

/-! ## Where the steps that write `seq` come from -/

theorem enterFatal_not_mem_hostProgram (P : Params) (c : Ctx) (i : Instr) : .enterFatal ∉ hostProgram P c i := by
  have hneutral {ms : List Micro} (h : ms.all Micro.neutral = true) : .enterFatal ∉ ms :=
    fun hm => absurd (List.all_eq_true.1 h _ hm) Bool.false_ne_true
  have hwrite (sp img skip) := hneutral (writeBlock_neutral sp img skip)
  have hread (sp skip) := hneutral (readBlock_neutral P sp skip)
  intro h
  cases i with
  | reprov =>
    simp [hostProgram, reprovBody, stepsRp2, stepsRp3, stepsRp4, stepsRp5, stepsRp6, stepsProtect, stepsRp9,
      cleanupProgram, hwrite, hread] at h
  | init cfg n dtr =>
    simp only [hostProgram, initProgram] at h
    split at h
    · simp [endProgram] at h
    · simp [bringupProgram, stepsReset, programPhase, stepsEnableWrite, stepsNvImage, stepsVImage, stepsSelectMode,
        verifyPhase, stepsVerifyStatus, stepsVerify, stepsReady, endProgram, hwrite, hread] at h
  | poll n =>
    simp only [hostProgram, pollProgram] at h
    split_ifs at h <;> simp [endProgram, pollTurn] at h
  | _ => simp [hostProgram, eraseProgram, pollTurn, mmapProgram, endProgram] at h

/-- The width check of bring-up (R149, R201): the widths of the table that the parameters have. -/
theorem ofWidth_eq_none_iff (P : Params) (n : Nat) :
    LineCount.ofWidth P n = none ↔ n ∉ [1, 2, 4, 8] ∨ n ∉ P.widths := by
  unfold LineCount.ofWidth LineCount.ofCount
  split_ifs <;> simp_all

/-- RESET comes with a supported width, ERROR at once with another, and both with no other command (R201, R202). -/
theorem init_of_mem_hostProgram {P : Params} {c : Ctx} {i : Instr} {m : Micro} (hm : m = .enterReset ∨ m = .enterError)
    (h : m ∈ hostProgram P c i) :
    ∃ cfg n dtr, i = .init cfg n dtr ∧ (LineCount.ofWidth P n = none ↔ m = .enterError) := by
  have hmoves : m.movesSeq = true := by rcases hm with rfl | rfl <;> rfl
  have hi : isInit (some i) = true := isInit_of_movesSeq (List.any_eq_true.2 ⟨m, h, hmoves⟩)
  have hwrite (sp img skip) : m ∉ writeBlock sp img skip := fun hb =>
    absurd hmoves (by simp [movesSeq_of_neutral (List.all_eq_true.1 (writeBlock_neutral sp img skip) m hb)])
  have hread (sp skip) : m ∉ readBlock P sp skip := fun hb =>
    absurd hmoves (by simp [movesSeq_of_neutral (List.all_eq_true.1 (readBlock_neutral P sp skip) m hb)])
  cases i with
  | init cfg n dtr =>
    refine ⟨cfg, n, dtr, rfl, ?_⟩
    simp only [hostProgram, initProgram] at h
    split at h
    · rename_i hw
      rcases hm with rfl | rfl
      · simp [endProgram] at h
      · simp [hw]
    · rename_i hw
      rcases hm with rfl | rfl
      · simp [hw]
      · simp [bringupProgram, stepsReset, programPhase, stepsEnableWrite, stepsNvImage, stepsVImage, stepsSelectMode,
          verifyPhase, stepsVerifyStatus, stepsVerify, stepsReady, endProgram, hwrite, hread] at h
  | _ => exact absurd hi Bool.false_ne_true

/-- The steps that take `seq` to RESET, ERROR or FATAL. -/
def Micro.jumps : Micro → Bool
  | .enterReset | .enterError | .enterFatal => true
  | _ => false

theorem not_neutral_of_jumps {m : Micro} (h : m.jumps = true) : m.neutral = false := by
  cases m <;> first | rfl | exact absurd h Bool.false_ne_true

theorem jumps_not_mem {m : Micro} (h : m.jumps = true) {ms : List Micro} (hms : ms.all Micro.neutral = true) :
    m ∉ ms :=
  fun hm => absurd (List.all_eq_true.1 hms m hm) (by simp [not_neutral_of_jumps h])

/-- A step to RESET, ERROR or FATAL in waiting after a step was in waiting before, or comes of a failure inside
bring-up, of a failed memory-map call, or with a command taken. -/
theorem jumps_of_makes {s t : State} {m x : Micro} (h : Makes s m t) (hj : x.jumps = true) (hx : x ∈ t.agenda) :
    x ∈ s.agenda ∨ (x = .enterError ∧ isInit s.cmd = true) ∨
      (x = .enterFatal ∧ ∃ c, t.events = s.events ++ [.mm c .fail]) ∨
      ∃ i, t.events = s.events ++ [.cmd i] ∧ x ∈ hostProgram s.params s.ctx i := by
  have hraise {u : State} {k : Failure} (hc : u.cmd = s.cmd) (hx : x ∈ (u.raise k).agenda) :
      x = .enterError ∧ isInit s.cmd = true := by
    rcases raise_cases u k with ⟨_, e⟩ | ⟨_, e⟩ <;> rw [e] at hx
    · have hne : x ∉ cleanupProgram := by cases x <;> simp_all [Micro.jumps, cleanupProgram]
      exact absurd hx hne
    · rcases failProgram_cases u.cmd k with ⟨hi, e⟩ | ⟨_, e⟩ <;> simp only [e] at hx
      · refine ⟨?_, hc ▸ hi⟩
        cases x <;> simp_all [Micro.jumps, endProgram]
      · have hne : x ∉ endProgram k.toResult false := by cases x <;> simp_all [Micro.jumps, endProgram]
        exact absurd hx hne
  have hpush {ms : List Micro} (hms : x ∉ ms) (hx : x ∈ ms ++ s.agenda) : x ∈ s.agenda :=
    (List.mem_append.1 hx).resolve_left hms
  cases h with
  | failed | raises => exact .inr (.inl (hraise (by simp) hx))
  | mapFailed => exact .inr (.inr (.inl ⟨by simpa using hx, _, rfl⟩))
  | takes => exact .inr (.inr (.inr ⟨_, rfl, hx⟩))
  | waits hm =>
    refine .inl (hpush ?_ hx)
    rintro (_ | ⟨_, ⟨⟩⟩)
    cases m <;> first | exact absurd hm Bool.false_ne_true | exact absurd hj Bool.false_ne_true
  | mapWaits =>
    refine .inl (hpush ?_ hx)
    rintro (_ | ⟨_, ⟨⟩⟩)
    cases hj
  | sent hb hf =>
    rw [received_eq] at hx
    exact .inl (hpush (jumps_not_mem hj hf.neutral.2) hx)
  | polls h => exact .inl (hpush (jumps_not_mem hj h.neutral.2) hx)
  | plainFailed hb hf =>
    refine .inl (hpush ?_ hx)
    cases hf <;> cases x <;> simp_all [Micro.jumps]
  | plainSent hb hf =>
    refine .inl (hpush ?_ hx)
    cases hf <;> cases x <;> simp_all [Micro.jumps]
  | deinit =>
    refine .inl (hpush ?_ hx)
    cases x <;> simp_all [Micro.jumps, busResetProgram, toggleProgram]
  | writes h => cases h <;> exact .inl hx
  | halts | responds => cases hx
  | mapDone => exact .inl (by simpa using hx)
  | _ => exact .inl hx

/-- The same of every step without hardware reset. -/
theorem jumps_of_steps {s t : State} {x : Micro} (h : Steps s t) (hj : x.jumps = true) (hx : x ∈ t.agenda) :
    x ∈ s.agenda ∨ (x = .enterError ∧ isInit s.cmd = true) ∨
      (x = .enterFatal ∧ ∃ c, t.events = s.events ++ [.mm c .fail]) ∨
      ∃ i, t.events = s.events ++ [.cmd i] ∧ x ∈ hostProgram s.params s.ctx i := by
  cases h with
  | rests => exact .inl hx
  | takes => exact .inr (.inr (.inr ⟨_, rfl, hx⟩))
  | serves ha hb more f =>
    refine .inl ?_
    unfold State.windowBang at hx
    split at hx <;> exact hx
  | makes ha h =>
    rw [ha]
    exact (jumps_of_makes h hj hx).imp_left (List.mem_cons_of_mem _)

/-- The moves of `seq` (R24, R25). -/
theorem seq_of_steps {s t : State} (h : Steps s t) :
    t.seq = s.seq ∨
      (t.seq = s.seq.succ ∧ s.agenda.head? = some .advance) ∨
      (t.seq = .reset ∧ s.agenda.head? = some .enterReset) ∨
      (t.seq = .error ∧ s.agenda.head? = some .enterError) ∨
      (t.seq = .fatal ∧ s.agenda.head? = some .enterFatal) := by
  rcases registers_of_steps h with hk | ⟨m, rest, ha, hw | ⟨rfl, rfl⟩⟩
  · exact .inl hk.seq
  · cases hw <;> simp [ha]
  · simp [ha]

/-- The step to ERROR is made and nothing else. -/
theorem agenda_of_enterError {s t : State} (h : Makes s .enterError t) : t.agenda = s.agenda := by
  cases h with
  | writes h => cases h; rfl
  | waits hm => cases hm
  | failed hb hf => cases hf
  | sent hb hf => cases hf
  | plainFailed hb hf => cases hf
  | plainSent hb hf => cases hf
  | passes hm => rfl
  | raises h => cases h
  | polls h => cases h

/-- Settles O49: the moves by the register updates, the three jumps by where they come from. -/
theorem seqMovesInOrder : Obligations.SeqMovesInOrder := by
  intro s t hr h
  obtain ⟨_, hs⟩ := steps_of_step hr h
  refine ⟨seq_of_steps hs, fun hx => ?_, fun hx => ?_, fun hx => ?_, fun hi hhead => ?_⟩
  · rcases jumps_of_steps hs rfl hx with hx | ⟨⟨⟩, _⟩ | ⟨⟨⟩, _⟩ | ⟨i, he, hx⟩
    · exact .inl hx
    · obtain ⟨cfg, n, dtr, rfl, hn⟩ := init_of_mem_hostProgram (.inl rfl) hx
      simp only [reduceCtorEq, iff_false, ofWidth_eq_none_iff, not_or, not_not] at hn
      exact .inr ⟨cfg, n, dtr, he, hn⟩
  · rcases jumps_of_steps hs rfl hx with hx | ⟨_, hi⟩ | ⟨⟨⟩, _⟩ | ⟨i, he, hx⟩
    · exact .inl hx
    · exact .inr (.inl hi)
    · obtain ⟨cfg, n, dtr, rfl, hn⟩ := init_of_mem_hostProgram (.inr rfl) hx
      exact .inr (.inr ⟨cfg, n, dtr, he, (ofWidth_eq_none_iff _ _).1 (hn.2 rfl)⟩)
  · rcases jumps_of_steps hs rfl hx with hx | ⟨⟨⟩, _⟩ | ⟨_, hc⟩ | ⟨i, he, hx⟩
    · exact .inl hx
    · exact .inr hc
    · exact absurd hx (enterFatal_not_mem_hostProgram _ _ _)
  · cases hs with
    | makes ha h =>
      rw [ha] at hhead
      cases hhead
      rw [agenda_of_enterError h]
      exact onlyFailure_of_enterError hi ha
    | rests ha | takes ha | serves ha => simp [ha] at hhead

/-! ## Responses -/

/-- The last event of a history tells which event a step added. -/
theorem eq_of_append_singleton {es evs : List Event} {e x : Event} (h : es ++ [e] = es ++ evs ++ [x]) : e = x := by
  simpa using congrArg List.getLast? h

theorem not_append_singleton {es evs : List Event} {x : Event} : es ≠ es ++ evs ++ [x] := by
  intro h
  simpa using congrArg List.length h

/-- Data goes with an Ok response only (R100). -/
theorem res_of_rspData_ne_nil {s : State} {w : Bool} (h : s.rspData w ≠ []) : s.res = .ok := by
  by_contra hne
  exact h (by simp [State.rspData, hne])

/-- Settles O57: only the response step adds a response, and it is the last of a running command. -/
theorem responseLeavesTheBlockIdle : Obligations.ResponseLeavesTheBlockIdle := by
  intro s t evs r d hi hr h he
  obtain ⟨_, hs⟩ := steps_of_step hr h
  cases hs with
  | rests => exact absurd he not_append_singleton
  | takes => cases eq_of_append_singleton he
  | serves ha hb more f =>
    unfold State.windowBang at he
    split at he
    · exact absurd he not_append_singleton
    · cases eq_of_append_singleton he
  | @makes m rest _ ha hm =>
    rcases events_of_makes hm with e | ⟨x, e, hx⟩
    · exact absurd (e.symm.trans he) not_append_singleton
    · obtain rfl := eq_of_append_singleton (e.symm.trans he)
      obtain ⟨w, rfl, rfl⟩ := hx r d rfl
      rw [State.respond_events] at e
      obtain ⟨rfl, rfl⟩ : s.res = r ∧ _ = d := by simpa using e
      rw [eq_push_of_agenda ha] at hi
      have hc : (State.respond { s with agenda := rest } w).Closed := closed_of_makes (hi.running (by simp)) rfl hm
      refine ⟨hc.not_busy, rfl, rfl, rfl, res_of_rspData_ne_nil⟩

/-! ## A step is made -/

/-- A wire command on a free bus gives a next state, whatever is answered (R155). -/
theorem wire_next {i : Instr} {s : State} (hi : i.isWire = true) (hb : s.busFree) : ∃ t, exec i s = .next t := by
  obtain ⟨f, hf⟩ := wire_firstFrame s.params s.ctx hi
  exact ⟨_, (wire_exec hi hf).trans (onBus_of_free hb)⟩

/-- An instruction in waiting is no host command; with the pins where it needs them it gives a next state. -/
theorem exec_next {i : Instr} {s : State} (hl : (Micro.op i).legal = true) (hf : s.seq ≠ .fatal)
    (hp : (Micro.op i).pinsNeeded = s.pinOwner) : ∃ t, exec i s = .next t := by
  rcases instr_kinds i with hi | hi | ⟨c, rfl⟩ | ⟨g, rfl⟩ | ⟨w, d, c, rfl⟩ | rfl | ⟨l, v, rfl⟩ | ⟨tw, rfl⟩ |
    ⟨tr, rfl⟩ | rfl
  · refine wire_next hi ⟨hf, ?_⟩
    rw [← hp]
    cases i with
    | line => cases hi
    | _ => rfl
  · rw [Micro.legal, hi] at hl
    cases hl
  · exact ⟨_, rfl⟩
  · exact ⟨_, rfl⟩
  · exact ⟨_, rfl⟩
  · exact ⟨_, if_neg hf⟩
  · have hp : s.pinOwner = .seq := hp.symm
    exact ⟨s.emit (.line l v), by simp [exec, execLine, hf, hp]⟩
  all_goals exact ⟨_, onBus_of_free ⟨hf, hp.symm⟩⟩

theorem issuePlain_next {m : Micro} {f : Frame} {onOk onFail : List Micro} {s : State} (hb : s.busFree) :
    ∃ t, issuePlain m f onOk onFail s = .next t :=
  ⟨_, onBus_of_free hb⟩

/-- A step in waiting with the pins where it needs them gives a next state; RP9 with the policy the spec defines. -/
theorem runMicro_next {m : Micro} {s : State} (hl : m.legal = true) (hf : s.seq ≠ .fatal)
    (hp : m.pinsNeeded = s.pinOwner) (hbulk : s.params.reprovBulkVerify = .skip ∨ m ≠ .bulkVerify) :
    ∃ t, runMicro m s = .next t := by
  cases m with
  | op i => exact exec_next hl hf hp
  | second i =>
    simp only [runMicro, secondStep]
    split
    · exact ⟨_, onBus_of_free ⟨hf, hp.symm⟩⟩
    · exact ⟨_, rfl⟩
  | exitWindow =>
    simp only [runMicro, exitWindowStep]
    split
    · exact issuePlain_next ⟨hf, hp.symm⟩
    · exact ⟨_, rfl⟩
  | exitWrite => exact issuePlain_next ⟨hf, hp.symm⟩
  | disableWrite => exact issuePlain_next ⟨hf, hp.symm⟩
  | bulkVerify => exact ⟨s, by simp [runMicro, bulkVerifyStep, hbulk.resolve_right (not_not.2 rfl)]⟩
  | _ => exact ⟨_, rfl⟩

/-- With the window set up, an access is one frame of the template on the bus (R64). -/
theorem windowStep_of_mapped {s : State} (hm : s.mm = true) (more : List HostReq) (x : Template)
    (frame : Template → Frame) : windowStep s more (some x) frame = onBus s (s.windowBang more (frame x)) := by
  simp only [windowStep, hm]

/-- A window access while the window is set up gives a next state (R64). -/
theorem windowStep_next {s : State} {more : List HostReq} {o : Option Template} {frame : Template → Frame}
    (hb : s.busFree) (hm : s.mm = true) (ho : o.isSome = true) : ∃ t, windowStep s more o frame = .next t := by
  obtain ⟨x, rfl⟩ := Option.isSome_iff_exists.1 ho
  exact ⟨_, (windowStep_of_mapped hm more x frame).trans (onBus_of_free hb)⟩

/-- A closed block gives every request that has a meaning a next state (R64, R99, R300). -/
theorem serveHost_next {s : State} (hi : s.Inv) (hs : s.Closed) (hf : s.seq ≠ .fatal)
    (hreq : ∀ r, s.inbox.head? = some r → meaningful s r) : ∃ t, serveHost s = .next t := by
  have hb : s.busFree := ⟨hf, hs.pinOwner⟩
  unfold serveHost
  split
  · exact ⟨s, rfl⟩
  · rename_i word more hin
    obtain ⟨i, hd⟩ : meaningful s (.cmd word) := hreq _ (by simp [hin])
    simp only [hd, exec_host (isHost_of_decodeCommand hd)]
    exact ⟨_, accept_of_idle hf hs.not_busy⟩
  · rename_i offset len more hin
    have hm : s.mm = true := hreq (.load offset len) (by simp [hin])
    exact windowStep_next hb hm (hi.mapped hm).2
  · rename_i offset data more hin
    have hm : s.mm = true := hreq (.store offset data) (by simp [hin])
    exact windowStep_next hb hm (hi.mapped hm).1

/-- Settles O54: a running command's next step has the pins it needs; a closed block serves the request. -/
theorem noStepIsRefused : Obligations.NoStepIsRefused := by
  intro s hi hf hbulk hreq
  cases hr : s.resetIn with
  | true => exact ⟨_, if_pos hr⟩
  | false =>
    cases ha : s.agenda with
    | nil =>
      rw [step_of_idle hr hf ha]
      exact serveHost_next hi (hi.closed ha) hf (hreq ha)
    | cons m rest =>
      rw [step_of_agenda hr hf ha]
      have hrun := (hi.running (by simp [ha])).agenda
      rw [ha] at hrun hbulk
      have hlegal := hrun.legal
      rw [List.all_cons, Bool.and_eq_true] at hlegal
      exact runMicro_next hlegal.1 hf hrun.pinsNeeded (by simpa using hbulk)

/-! ## One command at a time -/

/-- Settles O48: a busy block refuses in `accept`; the steps in waiting leave the requests alone. -/
theorem secondCommandIsRefused : Obligations.SecondCommandIsRefused := by
  intro s hf hb
  refine ⟨fun i hi => ?_, fun t hr ha h => ?_⟩
  · rw [exec_host hi, accept, if_neg hf, if_pos hb]
  · obtain ⟨_, hs⟩ := steps_of_step hr h
    cases hs with
    | rests ha' | takes ha' | serves ha' => exact absurd ha' ha
    | makes _ h => exact (inbox_of_makes h :)

end Sys2Proof.Machine

/-! The write-enable pair law (20_memory.md R74, 70_reset_and_hazards.md R314): every step keeps it in the history and
in what is in waiting. -/

namespace Sys2Proof.Machine

open Sys2Proof

/-! ## Histories -/

theorem endsWithWren_append_singleton (P : Params) (es : List Event) (e : Event) :
    endsWithWren P (es ++ [e]) = e.isWren P := by
  simp [endsWithWren]

/-- A history with one more event keeps the law if the event is no write-type frame or follows on a WREN (R74). -/
theorem pairedFrom_append_singleton {P : Params} {b : Bool} {es : List Event} {e : Event}
    (hes : pairedFrom P b es = true)
    (he : e.isWrite P = true → (es.getLast?.map (Event.isWren P)).getD b = true) :
    pairedFrom P b (es ++ [e]) = true := by
  induction es generalizing b with
  | nil =>
    simp only [List.getLast?_nil, Option.map_none, Option.getD_none] at he
    simpa [pairedFrom, ← Bool.not_eq_true, imp_iff_not_or] using he
  | cons x xs ih =>
    rw [pairedFrom, Bool.and_eq_true] at hes
    rw [List.cons_append, pairedFrom, Bool.and_eq_true]
    refine ⟨hes.1, ih hes.2 fun hw => ?_⟩
    have hlast := he hw
    rw [List.getLast?_cons] at hlast
    cases hxs : xs.getLast? <;> simpa [hxs] using hlast

/-! ## Steps in waiting -/

/-- Steps none of which issues a bare write-type frame. -/
def calm (ms : List Micro) : Bool := ms.all (fun m => !m.needsWren)

theorem wrenAfter_of_ne {m : Micro} (h : m ≠ .op .wren) (b : Bool) : m.wrenAfter b = (m.silent && b) := by
  unfold Micro.wrenAfter
  split
  · exact absurd rfl h
  · rfl

/-- A WREN before the steps in waiting does no harm. -/
theorem agendaPaired_mono {ms : List Micro} (h : agendaPaired false ms = true) (b : Bool) :
    agendaPaired b ms = true := by
  induction ms generalizing b with
  | nil => rfl
  | cons m ms ih =>
    rw [agendaPaired, Bool.and_eq_true, Bool.or_false] at h
    rw [agendaPaired, Bool.and_eq_true, h.1, Bool.true_or]
    refine ⟨rfl, ?_⟩
    by_cases hm : m = .op .wren
    · subst hm
      exact h.2
    · have hrest := h.2
      rw [wrenAfter_of_ne hm, Bool.and_false] at hrest
      exact ih hrest _

theorem agendaPaired_calm_append {ms rest : List Micro} (hms : calm ms = true)
    (h : agendaPaired false rest = true) (b : Bool) : agendaPaired b (ms ++ rest) = true := by
  induction ms generalizing b with
  | nil => exact agendaPaired_mono h b
  | cons m ms ih =>
    rw [calm, List.all_cons, Bool.and_eq_true] at hms
    rw [List.cons_append, agendaPaired, hms.1, Bool.true_or, Bool.true_and]
    exact ih hms.2 _

theorem agendaPaired_of_calm {ms : List Micro} (hms : calm ms = true) (b : Bool) : agendaPaired b ms = true := by
  simpa using agendaPaired_calm_append hms (rest := []) rfl b

/-! The programs of the host commands. -/

theorem writeBlock_calm (sp : ConfigSpace) (img : Image) (skip : List SubregIndex) :
    calm (writeBlock sp img skip) = true := by
  rw [calm, writeBlock, List.all_map, List.all_eq_true]
  cases sp <;> exact fun _ _ => rfl

theorem readBlock_calm (P : Params) (sp : ConfigSpace) (skip : List SubregIndex) :
    calm (readBlock P sp skip) = true := by
  rw [calm, readBlock, List.all_append, List.all_flatMap]
  cases sp <;> simp [Micro.needsWren, ConfigSpace.readCmd]

theorem busResetProgram_calm (P : Params) : calm (busResetProgram P) = true := by
  simp [calm, busResetProgram, toggleProgram, Micro.needsWren]

theorem calm_cons (m : Micro) (ms : List Micro) : calm (m :: ms) = (!m.needsWren && calm ms) := rfl

theorem calm_append (ms ns : List Micro) : calm (ms ++ ns) = (calm ms && calm ns) := List.all_append

theorem initProgram_calm (P : Params) (cfg : Record) (n : Nat) (dtr : Bool) :
    calm (initProgram P cfg n dtr) = true := by
  unfold initProgram
  split
  · rfl
  · simp only [bringupProgram, programPhase, verifyPhase, stepsVerify, calm_cons, calm_append, writeBlock_calm,
      readBlock_calm]
    rfl

theorem reprovProgram_calm (P : Params) : calm (reprovBody P ++ cleanupProgram) = true := by
  simp only [reprovBody, stepsRp4, stepsRp6, calm_append, writeBlock_calm, readBlock_calm]
  rfl

theorem selectRead_calm (c : Ctx) (a : Address) (n : Length) : calm [.op (selectRead c a n)] = true := by
  unfold selectRead
  cases c.rop <;> rfl

theorem selectWrite_calm (c : Ctx) (a : Address) (v : List Byte) : calm [.op (selectWrite c a v)] = true := by
  unfold selectWrite
  cases c.wop <;> rfl

/-- Only `eraseChip()` puts a bare write-type frame in waiting, right after its WREN (R248). -/
theorem agendaPaired_hostProgram (P : Params) (c : Ctx) (i : Instr) :
    agendaPaired false (hostProgram P c i) = true := by
  cases i with
  | eraseChip => rfl
  | init cfg n dtr => exact agendaPaired_of_calm (initProgram_calm P cfg n dtr) _
  | reprov => exact agendaPaired_of_calm (reprovProgram_calm P) _
  | read a n => exact agendaPaired_calm_append (selectRead_calm c a n) rfl _
  | write a v => exact agendaPaired_calm_append (selectWrite_calm c a v) rfl _
  | poll n =>
    simp only [hostProgram, pollProgram]
    split_ifs <;> rfl
  | _ => rfl

/-! ## Frames -/

/-- The opcodes that are no write-type frame's (R74, R104). -/
def quietOpcodes (P : Params) : List Byte :=
  [P.op.wren, P.op.wrdi, P.op.rdsr, P.op.rdfsr, P.op.clfsr, P.op.rdid, P.op.rdnvcr, P.op.rdvcr, P.op.readFast,
   P.op.readDual, P.op.readQuad, P.op.readOctal, P.op.readOctalDtr]

theorem opcodes_perm (P : Params) : P.op.all.Perm (quietOpcodes P ++ writeOpcodes P) := by
  refine List.perm_iff_count.2 fun o => ?_
  simp only [Opcodes.all, quietOpcodes, writeOpcodes, List.cons_append, List.nil_append, List.count_cons,
    List.count_nil]
  omega

/-- With distinct opcodes a frame tells whether it is write-type (R104). -/
theorem not_write_of_quiet {P : Params} (hd : P.Distinct) {o : Byte} (ho : o ∈ quietOpcodes P) :
    (writeOpcodes P).contains o = false := by
  have hnodup : (quietOpcodes P ++ writeOpcodes P).Nodup := (opcodes_perm P).nodup_iff.1 hd.1
  simpa using List.disjoint_of_nodup_append hnodup ho

/-- The first frame of a wire command is no write-type frame, but for ERASE.CHIP, whose WREN is another step's. -/
theorem firstFrame_quiet {P : Params} {c : Ctx} {i : Instr} {f : Frame} (h : firstFrame P c i = some f) :
    i = .eraseChipFrame ∨ f.instr ∈ quietOpcodes P := by
  cases i with
  | eraseChipFrame => exact .inl rfl
  | wren | wrdi | rdsr | wrsr | rdfsr | clfsr | rdid | rdnvcr | wrnvcr | rdvcr | wrvcr | readFast | readDual | readQuad
  | readOctal | readOctalDtr | writeStd | writeDual | writeQuad | writeOctalExt =>
    cases h
    exact .inr (by simp [quietOpcodes, bareFrame, regReadFrame, subregReadFrame, arrayReadFrame])
  | _ => cases h

theorem needsWren_of_issues {P : Params} {c : Ctx} {m : Micro} {f : Frame} {ms : List Micro} (hd : P.Distinct)
    (h : Issues P c m f ms) (hw : (writeOpcodes P).contains f.instr = true) : m.needsWren = true := by
  cases h with
  | second => rfl
  | first hi hf =>
    rcases firstFrame_quiet hf with rfl | hq
    · rfl
    · rw [not_write_of_quiet hd hq] at hw
      cases hw

theorem needsWren_of_issuesPlain {P : Params} {c : Ctx} {m : Micro} {f : Frame} {onOk onFail : List Micro}
    (hd : P.Distinct) (h : IssuesPlain P c m f onOk onFail) (hw : (writeOpcodes P).contains f.instr = true) :
    m.needsWren = true := by
  cases h with
  | exitWrite => rfl
  | exitWindow =>
    rw [bareFrame, not_write_of_quiet hd (by simp [quietOpcodes])] at hw
    cases hw
  | disableWrite =>
    rw [bareFrame, not_write_of_quiet hd (by simp [quietOpcodes])] at hw
    cases hw

/-! ## Every step keeps the law -/

section Steps

variable {s t : State} {m : Micro}

/-- A step that records nothing. -/
theorem writeEnabled_of_quiet (hd : s.params.Distinct) (hh : pairedFrom s.params false s.events = true)
    (hp : t.params = s.params) (he : t.events = s.events)
    (hw : agendaPaired (endsWithWren s.params s.events) t.agenda = true) : t.WriteEnabled := by
  constructor
  · rw [hp]; exact hd
  · rw [hp, he]; exact hh
  · rw [hp, he]; exact hw

/-- A step that records an event, a write-type frame only after a WREN. -/
theorem writeEnabled_of_record (hd : s.params.Distinct) (hh : pairedFrom s.params false s.events = true) {e : Event}
    (hp : t.params = s.params) (he : t.events = s.events ++ [e])
    (hwrite : e.isWrite s.params = true → endsWithWren s.params s.events = true)
    (hw : agendaPaired (e.isWren s.params) t.agenda = true) : t.WriteEnabled := by
  constructor
  · rw [hp]; exact hd
  · rw [hp, he]
    refine pairedFrom_append_singleton hh fun hwr => ?_
    have hlast := hwrite hwr
    unfold endsWithWren at hlast
    split at hlast
    · rename_i x hx
      simpa [hx] using hlast
    · cases hlast
  · rw [hp, he, endsWithWren_append_singleton]; exact hw

theorem wren_before (h : (s.push [m]).WriteEnabled) (hm : m.needsWren = true) :
    endsWithWren s.params s.events = true := by
  have hw := h.waiting
  rw [State.push_agenda, List.cons_append, agendaPaired, hm, Bool.and_eq_true] at hw
  exact hw.1

/-- What is left after the step, as the step leaves the history. -/
theorem paired_after (h : (s.push [m]).WriteEnabled) :
    agendaPaired (m.wrenAfter (endsWithWren s.params s.events)) s.agenda = true := by
  have hw := h.waiting
  rw [State.push_agenda, List.cons_append, agendaPaired, Bool.and_eq_true] at hw
  exact hw.2

/-- What is left after a step that may record an event. -/
theorem paired_after_event (h : (s.push [m]).WriteEnabled) (hm : m ≠ .op .wren) (hs : m.silent = false) :
    agendaPaired false s.agenda = true := by
  simpa [wrenAfter_of_ne hm, hs] using paired_after h

/-- What is left after a step that recorded nothing. -/
theorem paired_after_quiet (h : (s.push [m]).WriteEnabled) (hm : m ≠ .op .wren) :
    agendaPaired (endsWithWren s.params s.events) s.agenda = true := by
  have hrest := paired_after h
  rw [wrenAfter_of_ne hm] at hrest
  cases hs : m.silent with
  | false =>
    rw [hs, Bool.false_and] at hrest
    exact agendaPaired_mono hrest _
  | true => rwa [hs, Bool.true_and] at hrest

theorem raise_calm (s : State) (k : Failure) : calm (s.raise k).agenda = true := by
  rcases raise_cases s k with ⟨_, e⟩ | ⟨_, e⟩ <;> rw [e]
  · rfl
  · rcases failProgram_cases s.cmd k with ⟨_, e⟩ | ⟨_, e⟩ <;> rw [e] <;> rfl

/-- After a frame answered Ok what is left may begin with the second frame of a pair, whose WREN it was (R74). -/
theorem paired_of_issues {f : Frame} {ms : List Micro} {l : List Byte} (h : (s.push [m]).WriteEnabled)
    (hf : Issues s.params s.ctx m f ms) :
    agendaPaired ((Event.btp f (.ok l)).isWren s.params) (ms ++ s.agenda) = true := by
  cases hf with
  | second => exact agendaPaired_mono (paired_after_event h nofun rfl) _
  | @first i _ hi hf =>
    have hs : (Micro.op i).silent = false := by
      cases i with
      | encodeRecord | decodeImage | derive => cases hi
      | _ => rfl
    by_cases hw : i = .wren
    · subst hw
      cases hf
      have hrest : agendaPaired true s.agenda = true := paired_after h
      simpa [Event.isWren, bareFrame, Instr.isPair] using hrest
    · have hrest := paired_after_event h (by simpa using hw) hs
      split
      · rename_i hp
        rw [firstFrame, if_pos hp] at hf
        cases hf
        simpa [Event.isWren, bareFrame, agendaPaired, wrenAfter_of_ne, Micro.silent] using hrest
      · exact agendaPaired_mono hrest _

/-- The cleanup keeps the exit write right after its WREN (R229). -/
theorem paired_of_issuesPlain {f : Frame} {onOk onFail : List Micro} {l : List Byte} (h : (s.push [m]).WriteEnabled)
    (hf : IssuesPlain s.params s.ctx m f onOk onFail) :
    agendaPaired ((Event.btp f (.ok l)).isWren s.params) (onOk ++ s.agenda) = true ∧
      agendaPaired false (onFail ++ s.agenda) = true := by
  have hrest : agendaPaired false s.agenda = true := by
    cases hf <;> exact paired_after_event h nofun rfl
  cases hf with
  | exitWindow =>
    exact ⟨by simpa [Event.isWren, bareFrame, agendaPaired, wrenAfter_of_ne, Micro.silent, Micro.needsWren] using hrest,
      agendaPaired_calm_append rfl hrest _⟩
  | exitWrite => exact ⟨agendaPaired_mono hrest _, hrest⟩
  | disableWrite => exact ⟨agendaPaired_mono hrest _, hrest⟩

/-- Every step in waiting keeps the write-enable pair law. -/
theorem writeEnabled_of_makes (h : (s.push [m]).WriteEnabled) (hm : Makes s m t) : t.WriteEnabled := by
  have hd : s.params.Distinct := h.distinct
  have hh : pairedFrom s.params false s.events = true := h.history
  cases hm with
  | waits | mapWaits => exact writeEnabled_of_quiet hd hh rfl rfl h.waiting
  | @failed _ f _ hb hf =>
    exact writeEnabled_of_record hd hh (e := .btp f .fail) (by simp) (by simp)
      (fun hw => wren_before h (needsWren_of_issues hd hf hw)) (agendaPaired_of_calm (raise_calm _ _) _)
  | sent hb hf =>
    rw [received_eq]
    exact writeEnabled_of_record hd hh rfl rfl (fun hw => wren_before h (needsWren_of_issues hd hf hw))
      (paired_of_issues h hf)
  | plainFailed hb hf =>
    exact writeEnabled_of_record hd hh rfl rfl (fun hw => wren_before h (needsWren_of_issuesPlain hd hf hw))
      (paired_of_issuesPlain (l := []) h hf).2
  | plainSent hb hf =>
    exact writeEnabled_of_record hd hh rfl rfl (fun hw => wren_before h (needsWren_of_issuesPlain hd hf hw))
      (paired_of_issuesPlain h hf).1
  | mapFailed => exact writeEnabled_of_record hd hh rfl rfl nofun rfl
  | mapDone hb hc =>
    have hrest : agendaPaired false s.agenda = true := by cases hc <;> exact paired_after_event h nofun rfl
    cases hc <;> exact writeEnabled_of_record hd hh rfl rfl nofun hrest
  | takes hi => exact writeEnabled_of_record hd hh rfl rfl nofun (agendaPaired_hostProgram _ _ _)
  | returns hr =>
    have hrest := paired_after_quiet h (by rintro ⟨⟩; cases hr)
    exact writeEnabled_of_quiet hd hh rfl rfl hrest
  | deinit =>
    have hrest := paired_after_event h nofun rfl
    exact writeEnabled_of_record hd hh rfl rfl nofun
      (agendaPaired_calm_append (busResetProgram_calm s.params) hrest _)
  | line | reinit | reads =>
    have hrest := paired_after_event h nofun rfl
    exact writeEnabled_of_record hd hh rfl rfl nofun hrest
  | writes hw =>
    have hrest := paired_after_quiet h (by rintro rfl; cases hw)
    cases hw <;> exact writeEnabled_of_quiet hd hh rfl rfl hrest
  | clears | gathers | closed =>
    have hrest := paired_after_quiet h nofun
    exact writeEnabled_of_quiet hd hh rfl rfl hrest
  | passes hp => exact writeEnabled_of_quiet hd hh rfl rfl (paired_after_quiet h (by rintro rfl; cases hp))
  | raises => exact writeEnabled_of_quiet hd hh (by simp) (by simp) (agendaPaired_of_calm (raise_calm _ _) _)
  | polls hp =>
    have hrest : agendaPaired false s.agenda = true := by cases hp <;> exact paired_after_event h nofun rfl
    cases hp <;> exact writeEnabled_of_quiet hd hh rfl rfl (agendaPaired_calm_append rfl hrest _)
  | halts => exact writeEnabled_of_quiet hd hh rfl rfl rfl
  | responds => exact writeEnabled_of_record hd hh rfl rfl nofun rfl

/-- Every step without hardware reset keeps it. -/
theorem writeEnabled_of_steps (h : s.WriteEnabled) (hs : Steps s t) : t.WriteEnabled := by
  have hd := h.distinct
  have hh := h.history
  cases hs with
  | rests => exact h
  | takes => exact writeEnabled_of_record hd hh rfl rfl nofun (agendaPaired_hostProgram _ _ _)
  | serves ha hb more f =>
    unfold State.windowBang
    split
    · exact writeEnabled_of_quiet hd hh rfl rfl (by rw [State.drewBtp_agenda, ha]; rfl)
    · exact writeEnabled_of_record hd hh rfl rfl nofun (by rw [State.emit_agenda, State.drewBtp_agenda, ha]; rfl)
  | makes ha hm =>
    rw [eq_push_of_agenda ha] at h
    exact writeEnabled_of_makes h hm

end Steps

/-- Settles O55: hardware reset leaves the history and empties the agenda; every other step is one of `Steps`. -/
theorem stepKeepsWriteEnablePairs : Obligations.StepKeepsWriteEnablePairs := by
  intro s t h hs
  cases hr : s.resetIn with
  | true =>
    rw [step, if_pos hr] at hs
    cases hs
    exact writeEnabled_of_quiet h.distinct h.history rfl rfl rfl
  | false => exact writeEnabled_of_steps h (steps_of_step hr hs).2

/-- Settles O56: history and agenda are empty, the default opcodes and codes are written out. -/
theorem writeEnablePairsHoldAtReset : Obligations.WriteEnablePairsHoldAtReset :=
  ⟨⟨by decide, by decide⟩, rfl, rfl⟩

end Sys2Proof.Machine

/-! Proofs for 30_encoding.md: the decoders as tables of rows (R98, R104), what a row decodes, and that decoding undoes
encoding. -/

namespace Sys2Proof

/-! ## Tables -/

/-- The first row with a key, or a default. -/
def firstRow {α : Type} (default : α) (key : Byte) : List (Byte × α) → α
  | [] => default
  | (k, v) :: rows => if key = k then v else firstRow default key rows

theorem firstRow_of_mem {α : Type} {default v : α} {key : Byte} {rows : List (Byte × α)}
    (hd : (rows.map Prod.fst).Nodup) (h : (key, v) ∈ rows) : firstRow default key rows = v := by
  induction rows with
  | nil => cases h
  | cons row rows ih =>
    obtain ⟨k, x⟩ := row
    rw [List.map_cons, List.nodup_cons] at hd
    rcases List.mem_cons.1 h with e | hrest
    · cases e
      exact if_pos rfl
    · have hne : key ≠ k := by
        rintro rfl
        exact hd.1 (List.mem_map.2 ⟨(key, v), hrest, rfl⟩)
      exact (if_neg hne).trans (ih hd.2 hrest)

theorem firstRow_of_not_mem {α : Type} {default : α} {key : Byte} {rows : List (Byte × α)}
    (h : key ∉ rows.map Prod.fst) : firstRow default key rows = default := by
  induction rows with
  | nil => rfl
  | cons row rows ih =>
    rw [List.map_cons, List.mem_cons, not_or] at h
    exact (if_neg h.1).trans (ih h.2)

theorem firstRow_mem {α : Type} {default : α} {key : Byte} {rows : List (Byte × α)} (h : key ∈ rows.map Prod.fst) :
    (key, firstRow default key rows) ∈ rows := by
  induction rows with
  | nil => cases h
  | cons row rows ih =>
    obtain ⟨k, x⟩ := row
    rw [firstRow]
    split
    · rename_i e
      exact e ▸ List.mem_cons_self
    · rename_i e
      exact List.mem_cons_of_mem _ (ih ((List.mem_cons.1 h).resolve_left e))

/-! ## The rows of the command port and of the frame table -/

/-- The rows of R98: a command code and the command a word with it asks for. -/
def commandRows (P : Params) (w : CmdWord) : List (Byte × Except DecodeError Instr) :=
  [(P.cmd.init, .ok (.init w.cfg w.w.toNat w.dtr)), (P.cmd.reprov, .ok .reprov),
   (P.cmd.read, .ok (.read w.address w.length)),
   (P.cmd.write, if w.wdata.length = w.length.toNat then .ok (.write w.address w.wdata) else .error .wrongLength),
   (P.cmd.eraseChip, .ok .eraseChip), (P.cmd.readId, .ok .readId), (P.cmd.readStatus, .ok .readStatus),
   (P.cmd.readFlags, .ok .readFlags), (P.cmd.clearFlags, .ok .clearFlags),
   (P.cmd.poll, .ok (.poll (w.timeout % 2 ^ P.tickW))), (P.cmd.mmap, .ok .mmap)]

theorem decodeCommand_eq_firstRow (P : Params) (w : CmdWord) :
    decodeCommand P w = firstRow (.ok (.reservedCmd w.code)) w.code (commandRows P w) := rfl

theorem commandRows_codes (P : Params) (w : CmdWord) : (commandRows P w).map Prod.fst = P.cmd.all := rfl

/-- The rows of R104: an opcode and what a frame with it decodes to. -/
def frameRows (P : Params) (f : Frame) : List (Byte × Except DecodeError Instr) :=
  [(P.op.wren, f.asBare .wren), (P.op.wrdi, f.asBare .wrdi), (P.op.rdsr, f.asRegRead 1 .rdsr),
   (P.op.wrsr, f.asRegWrite .wrsr), (P.op.rdfsr, f.asRegRead 1 .rdfsr), (P.op.clfsr, f.asBare .clfsr),
   (P.op.rdid, f.asRegRead P.idLen .rdid), (P.op.rdnvcr, f.asSubregRead (nvSubregOk P) .rdnvcr),
   (P.op.wrnvcr, f.asSubregWrite (nvSubregOk P) .wrnvcr), (P.op.rdvcr, f.asSubregRead (vSubregOk P) .rdvcr),
   (P.op.wrvcr, f.asSubregWrite (vSubregOk P) .wrvcr), (P.op.readFast, f.asArrayRead .readFast),
   (P.op.readDual, f.asArrayRead .readDual), (P.op.readQuad, f.asArrayRead .readQuad),
   (P.op.readOctal, f.asArrayRead .readOctal), (P.op.readOctalDtr, f.asArrayRead .readOctalDtr),
   (P.op.writeStd, f.asArrayWrite .writeStd), (P.op.writeDual, f.asArrayWrite .writeDual),
   (P.op.writeQuad, f.asArrayWrite .writeQuad), (P.op.writeOctalExt, f.asArrayWrite .writeOctalExt),
   (P.op.eraseChip, f.asBare .eraseChipFrame)]

theorem decodeFrame_eq_firstRow (P : Params) (f : Frame) :
    decodeFrame P f = firstRow (.error .unknownOpcode) f.instr (frameRows P f) := rfl

theorem frameRows_opcodes (P : Params) (f : Frame) : (frameRows P f).map Prod.fst = P.op.all := rfl

/-- With distinct command codes a command word decodes by its row. -/
theorem decodeCommand_of_mem {P : Params} {w : CmdWord} {v : Except DecodeError Instr} (hd : P.Distinct)
    (h : (w.code, v) ∈ commandRows P w) : decodeCommand P w = v :=
  (decodeCommand_eq_firstRow P w).trans (firstRow_of_mem (by rw [commandRows_codes]; exact hd.2) h)

/-- Every other code is the reserved row (R106). -/
theorem decodeCommand_of_reserved {P : Params} {w : CmdWord} (h : w.code ∉ P.cmd.all) :
    decodeCommand P w = .ok (.reservedCmd w.code) :=
  (decodeCommand_eq_firstRow P w).trans (firstRow_of_not_mem h)

/-- With distinct opcodes a frame decodes by its row. -/
theorem decodeFrame_of_mem {P : Params} {f : Frame} {v : Except DecodeError Instr} (hd : P.Distinct)
    (h : (f.instr, v) ∈ frameRows P f) : decodeFrame P f = v :=
  (decodeFrame_eq_firstRow P f).trans (firstRow_of_mem (by rw [frameRows_opcodes]; exact hd.1) h)

/-! ## Decoding undoes encoding -/

/-- The frame of a well-formed wire command decodes to it (R104). -/
theorem decodeFrame_frameOf {P : Params} {c : Ctx} {i : Instr} {f : Frame} (hd : P.Distinct) (hw : i.wf P = true)
    (h : frameOf P c i = some f) : decodeFrame P f = .ok i := by
  refine decodeFrame_of_mem hd ?_
  cases i with
  | wren | wrdi | clfsr | eraseChipFrame =>
    cases h
    simp [frameRows, bareFrame, Frame.asBare]
  | rdsr | rdfsr | rdid =>
    cases h
    simp [frameRows, regReadFrame, recvPhase, Frame.asRegRead]
  | wrsr b =>
    cases h
    simp [frameRows, regWriteFrame, sendPhase, Frame.asRegWrite]
  | rdnvcr k | rdvcr k =>
    cases h
    rw [Instr.wf] at hw
    simp [frameRows, subregReadFrame, addrPhase, subregAddr, recvPhase, Frame.asSubregRead, subregOf, hw]
  | wrnvcr k b | wrvcr k b =>
    cases h
    rw [Instr.wf] at hw
    simp [frameRows, subregWriteFrame, addrPhase, subregAddr, sendPhase, Frame.asSubregWrite, subregOf, hw]
  | readFast | readDual | readQuad | readOctal | readOctalDtr =>
    cases h
    simp [frameRows, arrayReadFrame, addrPhase, recvPhase, Frame.asArrayRead]
  | writeStd | writeDual | writeQuad | writeOctalExt =>
    cases h
    simp [frameRows, arrayWriteFrame, addrPhase, sendPhase, Frame.asArrayWrite]
  | _ => cases h

/-- The word of a well-formed host command decodes to it (R98, R99, R106). -/
theorem decodeCommand_encodeCommand {P : Params} {i : Instr} {w : CmdWord} (hd : P.Distinct) (hw : i.wf P = true)
    (h : encodeCommand P i = some w) : decodeCommand P w = .ok i := by
  cases i with
  | init cfg n dtr =>
    cases h
    have hn : n % 16 = n := Nat.mod_eq_of_lt (by simpa [Instr.wf, widthFits] using hw)
    exact decodeCommand_of_mem hd (by simp [commandRows, CmdWord.ofCode, hn])
  | write a v =>
    cases h
    have hv : v.length % 4294967296 = v.length := Nat.mod_eq_of_lt (by simpa [Instr.wf, lengthFits] using hw)
    exact decodeCommand_of_mem hd (by simp [commandRows, CmdWord.ofCode, hv])
  | poll n =>
    cases h
    have hn : n % 2 ^ P.tickW = n := Nat.mod_eq_of_lt (by simpa [Instr.wf, timeoutFits] using hw)
    exact decodeCommand_of_mem hd (by simp [commandRows, CmdWord.ofCode, hn])
  | reservedCmd code =>
    cases h
    exact decodeCommand_of_reserved (by simpa [Instr.wf, reservedCode, CmdWord.ofCode] using hw)
  | reprov | read | eraseChip | readId | readStatus | readFlags | clearFlags | mmap =>
    cases h
    exact decodeCommand_of_mem hd (by simp [commandRows, CmdWord.ofCode])
  | _ => cases h

/-- The port call of an internal operation decodes to it (R107, R109). -/
theorem decode_encodePort {P : Params} {i : Instr} {code : Code} (hw : i.wf P = true)
    (h : encodePort P i = some code) : decode P code = .ok i := by
  cases i with
  | line => cases h; rfl
  | mmSetWrite | mmSetRead =>
    cases h
    rw [Instr.wf, beq_iff_eq] at hw
    simp [decode, decodeMmCall, hw]
  | mmEnable =>
    cases h
    simp [decode, decodeMmCall]
  | _ => cases h

/-- Settles O58: a host command by its row, a wire command by its frame, an internal operation by its port call. -/
theorem decodeOfEncode : Obligations.DecodeOfEncode := by
  intro P c i code hd hw h
  unfold encode at h
  split at h
  · cases h
    exact decodeCommand_encodeCommand hd hw ‹_›
  split at h
  · cases h
    exact decodeFrame_frameOf hd hw ‹_›
  · exact decode_encodePort hw h

/-! ## Command words -/

/-- A command word with a code of the table decodes as one of the table's rows says (R98). -/
theorem decodeCommand_mem {P : Params} {w : CmdWord} (h : w.code ∈ P.cmd.all) :
    (w.code, decodeCommand P w) ∈ commandRows P w := by
  rw [decodeCommand_eq_firstRow]
  exact firstRow_mem h

/-- What a command word decodes to is well-formed: its fields have the widths of R99, a code outside the table is
reserved. -/
theorem wf_of_decodeCommand {P : Params} {w : CmdWord} {i : Instr} (h : decodeCommand P w = .ok i) :
    i.wf P = true := by
  by_cases hc : w.code ∈ P.cmd.all
  · have hm := decodeCommand_mem hc
    simp only [h, commandRows, List.mem_cons, Prod.mk.injEq, Except.ok.injEq, List.not_mem_nil, or_false] at hm
    rcases hm with ⟨_, rfl⟩ | ⟨_, rfl⟩ | ⟨_, rfl⟩ | ⟨_, hwrite⟩ | ⟨_, rfl⟩ | ⟨_, rfl⟩ | ⟨_, rfl⟩ | ⟨_, rfl⟩ | ⟨_, rfl⟩ |
      ⟨_, rfl⟩ | ⟨_, rfl⟩
    case inr.inr.inr.inl =>
      split at hwrite
      · rename_i hlen
        cases hwrite
        simpa [Instr.wf, lengthFits, hlen] using w.length.isLt
      · cases hwrite
    case inl => simpa [Instr.wf, widthFits] using w.w.isLt
    case inr.inr.inr.inr.inr.inr.inr.inr.inr.inl =>
      simpa [Instr.wf, timeoutFits] using Nat.mod_lt w.timeout (Nat.two_pow_pos P.tickW)
    all_goals rfl
  · rw [decodeCommand_of_reserved hc] at h
    cases h
    simpa [Instr.wf, reservedCode] using hc

/-- A command word is refused only as a WRITE with another number of bytes (R99). -/
theorem decodeCommand_eq_error {P : Params} {w : CmdWord} {e : DecodeError} (h : decodeCommand P w = .error e) :
    e = .wrongLength ∧ w.code = P.cmd.write ∧ w.wdata.length ≠ w.length.toNat := by
  by_cases hc : w.code ∈ P.cmd.all
  · have hm := decodeCommand_mem hc
    simp only [h, commandRows, List.mem_cons, Prod.mk.injEq, reduceCtorEq, and_false, or_false, false_or,
      List.not_mem_nil] at hm
    obtain ⟨hcode, hwrite⟩ := hm
    split at hwrite
    · cases hwrite
    · cases hwrite
      exact ⟨rfl, hcode, ‹_›⟩
  · rw [decodeCommand_of_reserved hc] at h
    cases h

/-- Settles O59: each clause is a row of the table. -/
theorem commandWordsDecodeToHostCommands : Obligations.CommandWordsDecodeToHostCommands := by
  intro P w hd
  have row {v : Except DecodeError Instr} (h : (w.code, v) ∈ commandRows P w) : decode P (.command w) = v :=
    decodeCommand_of_mem hd h
  refine ⟨fun h => row ?_, fun h => row ?_, fun h => row ?_, fun h hl => row ?_, fun h => row ?_, fun h => row ?_,
    fun h => row ?_, fun h => row ?_, fun h => row ?_, fun h => row ?_, fun h => row ?_,
    fun h => decodeCommand_of_reserved h, fun e => ⟨decodeCommand_eq_error, ?_⟩,
    fun i h => ⟨wf_of_decodeCommand h, Machine.isHost_of_decodeCommand h⟩⟩
  case refine_12 =>
    rintro ⟨rfl, h, hl⟩
    exact row (by simp [commandRows, h, hl])
  case refine_4 => simp [commandRows, h, hl]
  all_goals simp [commandRows, h]

/-- Settles O60: the two tables, run on five words. -/
theorem writtenWordsDecode : Obligations.WrittenWordsDecode :=
  ⟨rfl, rfl, rfl, rfl, rfl⟩

end Sys2Proof

/-! Proofs for 40_register_codec.md and 41_mode_context.md: the laws of ENCODE and DECODE (R130 to R133) and the table
of DERIVE (R151). -/

namespace Sys2Proof

open Machine

/-! ## The image, position by position -/

theorem takeD_getElem? {α : Type} (n k : Nat) (l : List α) (a : α) :
    (l.takeD n a)[k]? = if k < n then some (l.getD k a) else none := by
  induction n generalizing l k with
  | zero => simp
  | succ n ih =>
    cases k with
    | zero => cases l <;> simp
    | succ k => cases l <;> simp [ih, List.getElem?_replicate]

theorem takeD_eq_append {α : Type} (n : Nat) (l : List α) (a : α) :
    l.takeD n a = l.take n ++ List.replicate (n - l.length) a := by
  induction n generalizing l with
  | zero => simp
  | succ n ih => cases l <;> simp [ih, List.replicate_succ]

/-- An image has the bytes of R95 as far as they go and `RESERVED_BYTE` after them. -/
theorem encodeImage_getElem? (P : Params) (c : Record) (k : Nat) :
    (encodeImage P c)[k]? = if k < P.regBlockLen then some ((imageFields P c).getD k P.reservedByte) else none :=
  takeD_getElem? ..

theorem encodeImage_eq_append (P : Params) (c : Record) :
    encodeImage P c =
      (imageFields P c).take P.regBlockLen ++ List.replicate (P.regBlockLen - 9) P.reservedByte :=
  takeD_eq_append ..

/-- Byte 8 of an image that has one is the packed byte (R95). -/
theorem encodeImage_getD_packed (P : Params) (c : Record) :
    (encodeImage P c).getD 8 0 = if 8 < P.regBlockLen then packedByte c else 0 := by
  rw [List.getD_eq_getElem?_getD, encodeImage_getElem?]
  split <;> rfl

/-- OTP-lock goes into byte 8 and into no other (R95). -/
theorem imageFields_withOtpLock_getD (P : Params) (c : Record) (v : Bool) {k : Nat} (hk : k ≠ 8) (a : Byte) :
    (imageFields P { c with otpLock := v }).getD k a = (imageFields P c).getD k a := by
  match k with
  | 0 | 1 | 2 | 3 | 4 | 5 | 6 | 7 => rfl
  | 8 => exact absurd rfl hk
  | n + 9 => rfl

/-! ## DECODE after ENCODE -/

/-- DECODE reads from the packed byte the four bits ENCODE put there (R96, R131). -/
theorem decodeRecord_imageFields (P : Params) (c : Record) (more : List Byte) :
    decodeRecord (imageFields P c ++ more) = c := by
  simp only [decodeRecord, imageFields, List.cons_append, packedByte_getLsbD]
  rfl

theorem decodeRecord_encodeImage {P : Params} (h : 9 ≤ P.regBlockLen) (c : Record) :
    decodeRecord (encodeImage P c) = c := by
  rw [encodeImage_eq_append, List.take_of_length_le (show (imageFields P c).length ≤ _ from h)]
  exact decodeRecord_imageFields P c _

/-! ## ENCODE after DECODE -/

/-- An image of nine bytes, byte by byte. -/
theorem exists_nine_bytes {img : Image} (h : img.length = 9) :
    ∃ b0 b1 b2 b3 b4 b5 b6 b7 b8, img = [b0, b1, b2, b3, b4, b5, b6, b7, b8] := by
  match img with
  | [b0, b1, b2, b3, b4, b5, b6, b7, b8] => exact ⟨b0, b1, b2, b3, b4, b5, b6, b7, b8, rfl⟩

/-- Byte 8 packed again has its bits 6 to 3 put right (R96, R132). -/
theorem packedByte_of_bits (b : Byte) (c : Record) :
    packedByte { c with erasePol := b.getLsbD 7, otpLock := b.getLsbD 2, rstPin := b.getLsbD 1,
                        wrMode := b.getLsbD 0 } = b &&& 0x87 := by
  refine BitVec.eq_of_getLsbD_eq fun k hk => ?_
  rw [packedByte_getLsbD, BitVec.getLsbD_and]
  match k with
  | 0 | 1 | 2 | 3 | 4 | 5 | 6 | 7 => simp

/-- A decoded image encoded again: the reserved positions put right and no other (R132). -/
theorem encodeImage_decodeRecord {P : Params} (h : P.regBlockLen = 9) (b0 b1 b2 b3 b4 b5 b6 b7 b8 : Byte) :
    encodeImage P (decodeRecord [b0, b1, b2, b3, b4, b5, b6, b7, b8]) =
      [b0, b1, P.reservedByte, b3, b4, b5, b6, b7, b8 &&& 0x87] := by
  rw [encodeImage_of_nine h, ← packedByte_of_bits b8 (decodeRecord [b0, b1, b2, b3, b4, b5, b6, b7, b8])]
  rfl

/-- Masking leaves a byte as it is exactly when bits 6 to 3 are 0. -/
theorem and_mask_eq_iff (b : Byte) : b &&& 0x87 = b ↔ ∀ k, 3 ≤ k → k ≤ 6 → b.getLsbD k = false := by
  constructor
  · intro h k h3 h6
    rw [← h, BitVec.getLsbD_and]
    match k with
    | 3 | 4 | 5 | 6 => simp
  · intro h
    refine BitVec.eq_of_getLsbD_eq fun k hk => ?_
    rw [BitVec.getLsbD_and]
    match k with
    | 0 | 1 | 2 | 7 => simp
    | 3 | 4 | 5 | 6 => rw [h _ (by decide) (by decide), Bool.false_and]

/-! ## The statements -/

/-- Settles O1. -/
theorem encodeGivesTheImage : Obligations.EncodeGivesTheImage := by
  refine fun c s => ⟨packedByte c, packedByte_toNat c, fun h => ?_, rfl, rfl⟩
  have himage := encodeImage_of_nine h c
  change execEncodeRecord c s = _
  rw [execEncodeRecord, himage]
  rfl

/-- Settles O2: DECODE looks at the first nine bytes. -/
theorem decodeReadsEveryField : Obligations.DecodeReadsEveryField := by
  intro b0 b1 b2 b3 b4 b5 b6 b7 b8 more s
  rfl

/-- Settles O3. -/
theorem codecLaws : Obligations.CodecLaws := by
  intro P
  refine ⟨encodeImage_eq_append P, decodeRecord_encodeImage, fun h img hlen => ?_, fun h img hlen => ?_,
    fun h c d hcd => ?_, fun c img s => ⟨⟨_, rfl⟩, ⟨_, rfl⟩⟩, fun c => ⟨rfl, rfl, fun k hk => ?_, fun b hb => ?_, ?_,
    ?_, nvImage_eq_vImage_of_otpLock_eq_false P⟩⟩
  · obtain ⟨b0, b1, b2, b3, b4, b5, b6, b7, b8, rfl⟩ := exists_nine_bytes hlen
    rw [encodeImage_decodeRecord h]
    simp [← and_mask_eq_iff, eq_comm (a := b2)]
  · obtain ⟨b0, b1, b2, b3, b4, b5, b6, b7, b8, rfl⟩ := exists_nine_bytes hlen
    rw [encodeImage_decodeRecord h]
    refine ⟨fun k h2 h8 => ?_, rfl, rfl⟩
    match k with
    | 0 | 1 | 3 | 4 | 5 | 6 | 7 => rfl
    | 2 => exact absurd rfl h2
    | 8 => exact absurd rfl h8
    | n + 9 => rfl
  · rw [← decodeRecord_encodeImage h c, hcd, decodeRecord_encodeImage h d]
  · rw [nvImage, vImage, encodeImage_getElem?, encodeImage_getElem?, imageFields_withOtpLock_getD P c false hk]
  · rw [nvImage, vImage, encodeImage_getD_packed, encodeImage_getD_packed]
    split
    · exact packedByte_withOtpLock_getLsbD c false hb
    · rfl
  · rw [nvImage, encodeImage_getD_packed]
    split
    · exact packedByte_getLsbD_two _
    · rfl
  · intro h8
    rw [vImage, encodeImage_getD_packed, if_pos h8]
    exact packedByte_getLsbD_two c

/-- Settles O5: the widths of the table one by one. -/
theorem deriveFollowsTheTable : Obligations.DeriveFollowsTheTable := by
  intro w dtr cfg s
  change execDerive w dtr cfg s = _
  unfold execDerive deriveCtx LineCount.ofWidth LineCount.ofCount
  cases hw : s.params.widths.contains w with
  | false => simp
  | true =>
    simp only [if_true, Bool.true_eq_false, if_false]
    split_ifs <;> simp [deriveFor, instrLinesOf, addrWidthOf, readOpOf, writeOpOf, cfgDummyOf, *]

end Sys2Proof

/-! One step of a run, and the wire commands (42_protocol_ops.md R155 to R171): what a frame answered Ok, answered Fail
or not answered leaves, and how a command ends. -/

namespace Sys2Proof.Machine

open Sys2Proof

/-! ## Wire commands -/

section Wire

variable {s : State} {i : Instr} {f : Frame} {l : List Byte} {q : List (Option Answer)}

theorem firstFrame_of_not_pair {P : Params} {c : Ctx} (hp : i.isPair = false) :
    firstFrame P c i = frameOf P c i := by
  rw [firstFrame, if_neg (by simp [hp])]

/-- A wire command of one frame, answered Ok. -/
theorem wire_ok (hp : i.isPair = false) (hf : frameOf s.params s.ctx i = some f) (hs : s.busFree)
    (hq : s.btpIn = some (.ok l) :: q) (hl : l.length = f.rxLen) :
    exec i s = .next { s with btpIn := q, draws := s.draws + 1, events := s.events ++ [sent f l],
                              rx := if f.receives = true then l else s.rx } := by
  rw [wire_exec (isWire_of_frameOf hf) ((firstFrame_of_not_pair hp).trans hf), onBus_of_free hs, hp, btpBang_ok hq hl]
  rfl

/-- The WREN frame of a write pair, answered Ok. -/
theorem pair_ok (hp : i.isPair = true) (hs : s.busFree) (hq : s.btpIn = some (.ok []) :: q) :
    exec i s = .next { s with btpIn := q, draws := s.draws + 1, agenda := .second i :: s.agenda,
                              events := s.events ++ [sent (bareFrame s.params.op.wren s.ctx) []] } := by
  rw [wire_exec (f := bareFrame s.params.op.wren s.ctx) (isWire_of_isPair hp) (if_pos hp), onBus_of_free hs, hp,
    btpBang_ok hq rfl]
  rfl

/-- The first frame of a wire command, answered Fail. -/
theorem wire_fail (hi : i.isWire = true) (hf : firstFrame s.params s.ctx i = some f) (hs : s.busFree)
    (hq : s.btpIn = some .fail :: q) :
    exec i s = .next ((s.drewBtp.emit (.btp f .fail)).raise .transport) := by
  rw [wire_exec hi hf, onBus_of_free hs, btpBang_fail hq]

/-- The second frame of a write pair, answered Ok. -/
theorem second_ok (hf : frameOf s.params s.ctx i = some f) (hs : s.busFree) (hq : s.btpIn = some (.ok l) :: q)
    (hl : l.length = f.rxLen) :
    secondStep i s = .next { s with btpIn := q, draws := s.draws + 1, events := s.events ++ [sent f l],
                                    rx := if f.receives = true then l else s.rx } := by
  simp only [secondStep, hf, issue]
  rw [onBus_of_free hs, btpBang_ok hq hl]
  rfl

theorem second_fail (hf : frameOf s.params s.ctx i = some f) (hs : s.busFree) (hq : s.btpIn = some .fail :: q) :
    secondStep i s = .next ((s.drewBtp.emit (.btp f .fail)).raise .transport) := by
  simp only [secondStep, hf, issue]
  rw [onBus_of_free hs, btpBang_fail hq]

/-! The same as steps of a running command. -/

variable {rest : List Micro}

theorem step_frame (hp : i.isPair = false) (hf : frameOf s.params s.ctx i = some f) (hs : s.busFree)
    (hr : s.resetIn = false) (ha : s.agenda = .op i :: rest) (hq : s.btpIn = some (.ok l) :: q)
    (hl : l.length = f.rxLen) :
    step s = .next { s with agenda := rest, btpIn := q, draws := s.draws + 1, events := s.events ++ [sent f l],
                            rx := if f.receives = true then l else s.rx } :=
  (step_of_agenda hr hs.1 ha).trans (wire_ok (s := { s with agenda := rest }) hp hf hs hq hl)

theorem step_pair (hp : i.isPair = true) (hs : s.busFree) (hr : s.resetIn = false) (ha : s.agenda = .op i :: rest)
    (hq : s.btpIn = some (.ok []) :: q) :
    step s = .next { s with agenda := .second i :: rest, btpIn := q, draws := s.draws + 1,
                            events := s.events ++ [sent (bareFrame s.params.op.wren s.ctx) []] } :=
  (step_of_agenda hr hs.1 ha).trans (pair_ok (s := { s with agenda := rest }) hp hs hq)

theorem step_second (hf : frameOf s.params s.ctx i = some f) (hs : s.busFree) (hr : s.resetIn = false)
    (ha : s.agenda = .second i :: rest) (hq : s.btpIn = some (.ok l) :: q) (hl : l.length = f.rxLen) :
    step s = .next { s with agenda := rest, btpIn := q, draws := s.draws + 1, events := s.events ++ [sent f l],
                            rx := if f.receives = true then l else s.rx } :=
  (step_of_agenda hr hs.1 ha).trans (second_ok (s := { s with agenda := rest }) hf hs hq hl)

/-- A step that issues a frame, answered Fail. -/
theorem step_fail {m : Micro} {ms : List Micro} (hf : Issues s.params s.ctx m f ms) (hs : s.busFree)
    (hr : s.resetIn = false) (ha : s.agenda = m :: rest) (hq : s.btpIn = some .fail :: q) :
    step s = .next ((({ s with agenda := rest } : State).drewBtp.emit (.btp f .fail)).raise .transport) := by
  refine (step_of_agenda hr hs.1 ha).trans ?_
  cases hf with
  | first hi hf => exact wire_fail (s := { s with agenda := rest }) hi hf hs hq
  | second hf => exact second_fail (s := { s with agenda := rest }) hf hs hq

end Wire

/-! ## How a command ends -/

section Ends

variable {s : State} {q : List (Option Answer)}

theorem run_step {n : Nat} {t : State} {m : Micro} {rest : List Micro} (hr : s.resetIn = false)
    (hf : s.seq ≠ .fatal) (ha : s.agenda = m :: rest) (h : runMicro m { s with agenda := rest } = .next t) :
    run (n + 1) s = run n t :=
  run_succ ((step_of_agenda hr hf ha).trans h)

/-- The result and the response end a command (R26, R286). -/
theorem run_endProgram {r : Result} {d : Bool} (hr : s.resetIn = false) (hf : s.seq ≠ .fatal)
    (ha : s.agenda = endProgram r d) :
    run 2 s = .next (s.ended r s.btpIn 0 [.rsp r (if d = true ∧ r = .ok then s.rx else [])]) := by
  refine Eq.trans (run_step hr hf ha rfl) ?_
  refine Eq.trans (run_step (n := 0) (m := .giveRsp d) (rest := []) hr hf rfl rfl) ?_
  rfl

/-- ERROR, a result that is not Ok and the response end bring-up (R201, R211). -/
theorem run_errorProgram {r : Result} (hr : s.resetIn = false) (hf : s.seq ≠ .fatal)
    (ha : s.agenda = .enterError :: endProgram r false) :
    run 3 s = .next { s.ended r s.btpIn 0 [.rsp r []] with seq := .error } := by
  refine Eq.trans (run_step hr hf ha rfl) ?_
  exact Eq.trans (run_endProgram hr nofun rfl) rfl

/-- How many steps a failed command makes to its end (R286). -/
def stepsToFail (c : Option Instr) : Nat := if isInit c = true then 3 else 2

/-- A failed command other than `reProvision` ends with the failure's result, inside bring-up in ERROR (R286). -/
theorem run_raise {k : Failure} (hr : s.resetIn = false) (hf : s.seq ≠ .fatal) (hc : s.cmd ≠ some .reprov) :
    run (stepsToFail s.cmd) (s.raise k) = .next { s.ended k.toResult s.btpIn 0 [.rsp k.toResult []] with
      seq := if isInit s.cmd = true then .error else s.seq } := by
  obtain ⟨hc', _⟩ | ⟨_, e⟩ := raise_cases s k
  · exact absurd hc' hc
  rw [e, stepsToFail]
  obtain ⟨hi, e⟩ | ⟨hi, e⟩ := failProgram_cases s.cmd k <;> rw [e, hi]
  · exact run_errorProgram hr hf rfl
  · refine Eq.trans (run_endProgram (s := { s with agenda := endProgram k.toResult false }) hr hf rfl) ?_
    simp [State.ended]

/-- Inside `reProvision` a failure is kept, if it is the first, and the cleanup is what remains (R229). -/
theorem raise_of_reprov {k : Failure} (hc : s.cmd = some .reprov) :
    s.raise k = { s with err := s.err.or (some k), agenda := cleanupProgram } := by
  obtain ⟨_, e⟩ | ⟨hc', _⟩ := raise_cases s k
  · exact e
  · exact absurd hc hc'

/-- The end of a command whose frame was answered Fail (R281, R286). -/
theorem run_failed {f : Frame} (hr : s.resetIn = false) (hs : s.busFree) (hc : s.cmd ≠ some .reprov)
    (hq : s.btpIn = some .fail :: q) :
    run (stepsToFail s.cmd) ((s.drewBtp.emit (.btp f .fail)).raise .transport) =
      .next { s.ended .transport q 1 [.btp f .fail, .rsp .transport []] with
        seq := if isInit s.cmd = true then .error else s.seq } := by
  refine (run_raise (s := s.drewBtp.emit (.btp f .fail)) hr hs.1 hc).trans ?_
  simp [State.ended, hq, Failure.toResult]
  rfl

/-- The same inside `reProvision`: the cleanup is what remains (R229). -/
theorem failed_of_reprov {f : Frame} (hc : s.cmd = some .reprov) (hq : s.btpIn = some .fail :: q) :
    (s.drewBtp.emit (.btp f .fail)).raise .transport =
      { s with btpIn := q, draws := s.draws + 1, events := s.events ++ [.btp f .fail],
               err := s.err.or (some .transport), agenda := cleanupProgram } := by
  rw [raise_of_reprov (s := s.drewBtp.emit (.btp f .fail)) hc]
  simp [State.emit, State.drewBtp, hq]

end Ends

/-! ## The statements -/

/-- Settles O6. -/
theorem bareCommandsIssueTheOpcode : Obligations.BareCommandsIssueTheOpcode := by
  intro s i op q hmem hs
  have hbare : i.isPair = false ∧ frameOf s.params s.ctx i = some (bareFrame op s.ctx) := by
    simp only [List.mem_cons, Prod.mk.injEq, List.not_mem_nil, or_false] at hmem
    rcases hmem with ⟨rfl, rfl⟩ | ⟨rfl, rfl⟩ | ⟨rfl, rfl⟩ | ⟨rfl, rfl⟩ <;> exact ⟨rfl, rfl⟩
  obtain ⟨hp, hf⟩ := hbare
  refine ⟨fun hq => wire_ok hp hf hs hq rfl, fun hq hi hc hr => ?_⟩
  refine ⟨_, wire_fail (isWire_of_frameOf hf) ((firstFrame_of_not_pair hp).trans hf) hs hq, ?_⟩
  have h := run_failed (f := bareFrame op s.ctx) hr hs hc hq
  rw [stepsToFail, hi] at h
  exact h

/-- Settles O7. -/
theorem registerReadsKeepTheBytes : Obligations.RegisterReadsKeepTheBytes := by
  intro s i op n l q hmem hs hq hl
  have hread : i.isPair = false ∧ frameOf s.params s.ctx i = some (regReadFrame op s.ctx n) := by
    simp only [List.mem_cons, Prod.mk.injEq, List.not_mem_nil, or_false] at hmem
    rcases hmem with ⟨rfl, rfl, rfl⟩ | ⟨rfl, rfl, rfl⟩ | ⟨rfl, rfl, rfl⟩ <;> exact ⟨rfl, rfl⟩
  exact wire_ok hread.1 hread.2 hs hq hl

/-- Settles O8. -/
theorem subregisterReadsKeepTheByte : Obligations.SubregisterReadsKeepTheByte := by
  intro s k i op b q hmem hs hq
  have hread : i.isPair = false ∧ frameOf s.params s.ctx i = some (subregReadFrame op s.ctx k) := by
    simp only [List.mem_cons, Prod.mk.injEq, List.not_mem_nil, or_false] at hmem
    rcases hmem with ⟨rfl, rfl⟩ | ⟨rfl, rfl⟩ <;> exact ⟨rfl, rfl⟩
  exact wire_ok hread.1 hread.2 hs hq rfl

/-- Settles O9. -/
theorem arrayReadsAreOneFrame : Obligations.ArrayReadsAreOneFrame := by
  intro s a n i op l q hmem hs hq hl
  have hread : i.isPair = false ∧ frameOf s.params s.ctx i = some (arrayReadFrame op s.ctx a n) := by
    simp only [List.mem_cons, Prod.mk.injEq, List.not_mem_nil, or_false] at hmem
    rcases hmem with ⟨rfl, rfl⟩ | ⟨rfl, rfl⟩ | ⟨rfl, rfl⟩ | ⟨rfl, rfl⟩ | ⟨rfl, rfl⟩ <;> exact ⟨rfl, rfl⟩
  exact wire_ok hread.1 hread.2 hs hq hl

/-- A write pair, both frames answered Ok: two steps and nothing between (R74). -/
theorem pair_two_steps {s : State} {i : Instr} {f : Frame} {q : List (Option Answer)} (hp : i.isPair = true)
    (hf : frameOf s.params s.ctx i = some f) (hn : f.receives = false) (hs : s.busFree) (hr : s.resetIn = false)
    (hq : s.btpIn = some (.ok []) :: some (.ok []) :: q) :
    ∃ t, exec i s = .next t ∧ step t = .next { s with
      btpIn := q, draws := s.draws + 2,
      events := s.events ++ [sent (bareFrame s.params.op.wren s.ctx) [], sent f []] } := by
  have hl : ([] : List Byte).length = f.rxLen := by
    unfold Frame.receives at hn
    unfold Frame.rxLen
    split at hn <;> simp_all
  refine ⟨_, pair_ok hp hs hq, ?_⟩
  refine Eq.trans (step_second hf hs hr rfl rfl hl) ?_
  simp [hn]

/-- Settles O10. -/
theorem registerWritesArePairs : Obligations.RegisterWritesArePairs := by
  intro s k b i op ap q hmem hs hr hq
  simp only [List.mem_cons, Prod.mk.injEq, List.not_mem_nil, or_false] at hmem
  rcases hmem with ⟨rfl, rfl, rfl⟩ | ⟨rfl, rfl, rfl⟩ | ⟨rfl, rfl, rfl⟩ <;>
    exact pair_two_steps rfl rfl rfl hs hr hq

/-- Settles O11. -/
theorem arrayWritesArePairs : Obligations.ArrayWritesArePairs := by
  intro s a v i op q hmem hs hr hq
  simp only [List.mem_cons, Prod.mk.injEq, List.not_mem_nil, or_false] at hmem
  rcases hmem with ⟨rfl, rfl⟩ | ⟨rfl, rfl⟩ | ⟨rfl, rfl⟩ | ⟨rfl, rfl⟩ <;> exact pair_two_steps rfl rfl rfl hs hr hq

/-- Settles O12. -/
theorem failedFrameRaisesTransport : Obligations.FailedFrameRaisesTransport := by
  intro s i f q hi hf hs hq
  exact ⟨_, wire_fail hi hf hs hq, fun hc => failed_of_reprov hc hq, fun hc hr => ⟨_, run_failed hr hs hc hq⟩⟩

/-- Settles O13. -/
theorem failedSecondFrameRaisesTransport : Obligations.FailedSecondFrameRaisesTransport := by
  intro s i f rest q ha _ hf hs hr hq
  exact ⟨_, step_fail (.second hf) hs hr ha hq, fun hc => failed_of_reprov (s := { s with agenda := rest }) hc hq,
    fun hc => ⟨_, run_failed (s := { s with agenda := rest }) hr hs hc hq⟩⟩

/-- Settles O14. -/
theorem unansweredCallWaits : Obligations.UnansweredCallWaits := by
  intro s i q hi hs hq
  obtain ⟨f, hf⟩ := wire_firstFrame s.params s.ctx hi
  rw [wire_exec hi hf, onBus_of_free hs, btpBang_pending hq]
  simp [State.push, State.drewBtp, hq]

/-- Settles O15: the three things a wire command can do. -/
theorem wireCommandsWriteNoRegister : Obligations.WireCommandsWriteNoRegister := by
  intro s i hi hs
  obtain ⟨t, ht⟩ := wire_next hi hs
  obtain ⟨_, f, _, hcases⟩ := wire_eq_next hi ht
  refine ⟨t, ht, fun g l he => ?_, ?_⟩
  · rcases hcases with rfl | rfl | ⟨l', hl, rfl⟩ <;> simp at he
    obtain ⟨rfl, rfl⟩ := he
    exact hl
  · rcases hcases with rfl | rfl | ⟨l', hl, rfl⟩ <;> simp

end Sys2Proof.Machine

/-! Proofs for 42_protocol_ops.md and 45_poll_erase.md: the host commands of one or two frames, the busy-poll and chip
erase, run to their ends. -/

namespace Sys2Proof.Machine

open Sys2Proof

/-! ## Commands of one or two frames -/

theorem not_receives_of_isPair {P : Params} {c : Ctx} {i : Instr} {f : Frame} (hp : i.isPair = true)
    (hf : frameOf P c i = some f) : f.receives = false ∧ f.rxLen = 0 := by
  cases i with
  | wrsr | wrnvcr | wrvcr | writeStd | writeDual | writeQuad | writeOctalExt => cases hf; exact ⟨rfl, rfl⟩
  | _ => cases hp

theorem selectRead_isPair (c : Ctx) (a : Address) (n : Length) : (selectRead c a n).isPair = false := by
  unfold selectRead
  cases c.rop <;> rfl

theorem selectWrite_isPair (c : Ctx) (a : Address) (v : List Byte) : (selectWrite c a v).isPair = true := by
  unfold selectWrite
  cases c.wop <;> rfl

section Short

variable {s : State} {i j : Instr} {f : Frame} {l : List Byte} {q : List (Option Answer)}

/-- A host command in a quiet state is taken: its program stands ready (R172, R300). -/
theorem exec_of_quiet (hi : i.isHost = true) (hs : s.quiet) :
    exec i s = .next { s with cmd := some i, agenda := hostProgram s.params s.ctx i, err := none,
                              events := s.events ++ [.cmd i] } :=
  (exec_host hi s).trans (accept_of_idle hs.1.1 hs.2.1)

/-- A command of one frame, answered Ok, responds with what the frame received, if anything. -/
theorem run_one_frame {d : Bool} (hi : i.isHost = true)
    (hprog : hostProgram s.params s.ctx i = .op j :: endProgram .ok d) (hj : j.isPair = false)
    (hf : frameOf s.params s.ctx j = some f) (hrx : f.receives = d) (hs : s.quiet)
    (hq : s.btpIn = some (.ok l) :: q) (hl : l.length = f.rxLen) :
    ∃ t, exec i s = .next t ∧
      run 3 t = .next (s.ended .ok q 1 [.cmd i, sent f l, .rsp .ok (if d = true then l else [])]) := by
  refine ⟨_, exec_of_quiet hi hs, ?_⟩
  refine Eq.trans (run_succ (step_frame hj hf hs.1 hs.2.2 hprog hq hl)) ?_
  refine Eq.trans (run_endProgram (r := .ok) (d := d) hs.2.2 hs.1.1 rfl) ?_
  subst hrx
  cases f.receives <;> simp [State.ended]

/-- The end of a host command other than the two sequences when it fails (R286). -/
theorem run_host_raise {k : Failure} (hc : s.cmd = some i) (hi : isInit (some i) = false) (hne : i ≠ .reprov)
    (hf : s.seq ≠ .fatal) (hr : s.resetIn = false) :
    run 2 (s.raise k) = .next (s.ended k.toResult s.btpIn 0 [.rsp k.toResult []]) := by
  have hinit : isInit s.cmd = false := by rw [hc]; exact hi
  have h := run_raise (k := k) hr hf (by rw [hc]; simpa using hne)
  rw [stepsToFail, hinit] at h
  exact h

/-- The same when its frame is answered Fail. -/
theorem run_host_failed (hc : s.cmd = some i) (hi : isInit (some i) = false) (hne : i ≠ .reprov)
    (hs : s.busFree) (hr : s.resetIn = false) (hq : s.btpIn = some .fail :: q) :
    run 2 ((s.drewBtp.emit (.btp f .fail)).raise .transport) =
      .next (s.ended .transport q 1 [.btp f .fail, .rsp .transport []]) := by
  refine (run_host_raise (s := s.drewBtp.emit (.btp f .fail)) hc hi hne hs.1 hr).trans ?_
  simp [State.ended, hq, Failure.toResult]

end Short

/-- Settles O16. -/
theorem hostReadReturnsTheBytes : Obligations.HostReadReturnsTheBytes := by
  intro s a n l q hs hq hl
  exact run_one_frame rfl rfl (selectRead_isPair _ _ _) (frameOf_selectRead _ _ _ _) rfl hs hq hl

/-- Settles O19. -/
theorem registerCommandsRespondWithTheBytes : Obligations.RegisterCommandsRespondWithTheBytes := by
  intro s i op n l q hmem hs hq hl
  simp only [List.mem_cons, Prod.mk.injEq, List.not_mem_nil, or_false] at hmem
  rcases hmem with ⟨rfl, rfl, rfl⟩ | ⟨rfl, rfl, rfl⟩ | ⟨rfl, rfl, rfl⟩
  · exact run_one_frame (f := regReadFrame s.params.op.rdsr s.ctx 1) rfl rfl rfl rfl rfl hs hq hl
  · exact run_one_frame (f := regReadFrame s.params.op.rdfsr s.ctx 1) rfl rfl rfl rfl rfl hs hq hl
  · exact run_one_frame (f := regReadFrame s.params.op.rdid s.ctx s.params.idLen) rfl rfl rfl rfl rfl hs hq hl

/-- Settles O20. -/
theorem clearFlagsIssuesOneFrame : Obligations.ClearFlagsIssuesOneFrame := by
  intro s q hs hq
  exact run_one_frame (f := bareFrame s.params.op.clfsr s.ctx) rfl rfl rfl rfl rfl hs hq rfl

/-- Settles O17: WREN, the data frame, the end. -/
theorem hostWriteIssuesThePair : Obligations.HostWriteIssuesThePair := by
  intro s a v q hs hq
  have hp := selectWrite_isPair s.ctx a v
  have hf := frameOf_selectWrite s.params s.ctx a v
  have hn := not_receives_of_isPair hp hf
  refine ⟨_, exec_of_quiet rfl hs, ?_⟩
  refine Eq.trans (run_succ (step_pair hp hs.1 hs.2.2 rfl hq)) ?_
  refine Eq.trans (run_succ (step_second hf hs.1 hs.2.2 rfl rfl hn.2.symm)) ?_
  refine Eq.trans (run_endProgram (r := .ok) (d := false) hs.2.2 hs.1.1 rfl) ?_
  simp [State.ended, sent, bareFrame, arrayWriteFrame, addrPhase, sendPhase]

/-- Settles O18: the WREN fails, or the data frame does. -/
theorem hostWriteStopsAtTheFailedFrame : Obligations.HostWriteStopsAtTheFailedFrame := by
  intro s a v q hs
  have hp := selectWrite_isPair s.ctx a v
  have hf := frameOf_selectWrite s.params s.ctx a v
  refine ⟨fun hq => ⟨_, exec_of_quiet rfl hs, ?_⟩, fun hq => ⟨_, exec_of_quiet rfl hs, ?_⟩⟩
  · refine Eq.trans (run_succ (step_fail (.first (isWire_of_isPair hp) (if_pos hp)) hs.1 hs.2.2 rfl hq)) ?_
    refine Eq.trans (run_host_failed (i := .write a v) rfl rfl nofun hs.1 hs.2.2 hq) ?_
    simp [State.ended]
  · refine Eq.trans (run_succ (step_pair hp hs.1 hs.2.2 rfl hq)) ?_
    refine Eq.trans (run_succ (step_fail (.second hf) hs.1 hs.2.2 rfl rfl)) ?_
    refine Eq.trans (run_host_failed (i := .write a v) rfl rfl nofun hs.1 hs.2.2 rfl) ?_
    simp [State.ended]

/-- Settles O21: a result without a port call, for bring-up after ERROR. -/
theorem commandsThatEndWithoutAPortCall : Obligations.CommandsThatEndWithoutAPortCall := by
  intro s hf hb hr
  refine ⟨fun code => ⟨_, accept_of_idle hf hb, ?_⟩, ⟨_, accept_of_idle hf hb, ?_⟩, fun cfg w dtr hw => ?_⟩
  · refine Eq.trans (run_endProgram (r := .config) (d := false) hr hf rfl) ?_
    simp [State.ended]
  · refine Eq.trans (run_endProgram (r := .timeout) (d := false) hr hf rfl) ?_
    simp [State.ended]
  · have hprog : initProgram s.params cfg w dtr = .enterError :: endProgram .config false := by
      rw [initProgram, (ofWidth_eq_none_iff s.params w).2 hw]
    refine ⟨_, accept_of_idle hf hb, ?_⟩
    refine Eq.trans (run_errorProgram (r := .config) hr hf hprog) ?_
    simp [State.ended]

end Sys2Proof.Machine

/-! Proofs for 45_poll_erase.md: the loops of the busy-poll, by induction over their turns, and the commands that
poll. -/

namespace Sys2Proof.Machine

open Sys2Proof

/-- The flag read of a poll (R240). -/
abbrev flagFrame (s : State) : Frame := regReadFrame s.params.op.rdfsr s.ctx 1

/-! ## One turn -/

section Turn

variable {s : State} {b : Byte} {rest : List Micro} {q : List (Option Answer)} {bound v : Nat} {tq : List Nat}

/-- The flag read of a turn, answered Ok. -/
theorem step_flagRead (hs : s.busFree) (hr : s.resetIn = false) (ha : s.agenda = .op .rdfsr :: rest)
    (hq : s.btpIn = some (.ok [b]) :: q) :
    step s = .next { s with agenda := rest, btpIn := q, draws := s.draws + 1, rx := [b],
                            events := s.events ++ [sent (flagFrame s) [b]] } :=
  step_frame (f := flagFrame s) rfl rfl hs hr ha hq rfl

/-- A ready byte ends the loop (R242, R243). -/
theorem step_ready {o : Option Nat} (hrx : s.rx = [b]) (hb : isReady s.params b) (hf : s.seq ≠ .fatal)
    (hr : s.resetIn = false) (ha : s.agenda = .pollTest o :: rest) : step s = .next { s with agenda := rest } := by
  refine (step_of_agenda hr hf ha).trans (congrArg Host.Outcome.next ?_)
  unfold State.pollTest
  rw [hrx]
  exact if_pos hb

/-- A byte that is not ready begins the next turn of a poll without a deadline (R243). -/
theorem step_again (hrx : s.rx = [b]) (hb : notReady s.params b) (hf : s.seq ≠ .fatal) (hr : s.resetIn = false)
    (ha : s.agenda = .pollTest none :: rest) : step s = .next { s with agenda := pollTurn none ++ rest } := by
  refine (step_of_agenda hr hf ha).trans (congrArg Host.Outcome.next ?_)
  unfold State.pollTest
  rw [hrx]
  exact if_neg (by rw [List.headD_cons, readyBitSet, hb]; nofun)

/-- In a poll with a deadline it leads to the tick (R242). -/
theorem step_toTick (hrx : s.rx = [b]) (hb : notReady s.params b) (hf : s.seq ≠ .fatal) (hr : s.resetIn = false)
    (ha : s.agenda = .pollTest (some bound) :: rest) :
    step s = .next { s with agenda := .readTick :: .tickTest bound :: rest } := by
  refine (step_of_agenda hr hf ha).trans (congrArg Host.Outcome.next ?_)
  unfold State.pollTest
  rw [hrx]
  exact if_neg (by rw [List.headD_cons, readyBitSet, hb]; nofun)

/-- One read of the tick (R242). -/
theorem step_readTick (hv : v < 2 ^ s.params.tickW) (hf : s.seq ≠ .fatal) (hr : s.resetIn = false)
    (ha : s.agenda = .readTick :: rest) (hq : s.tickIn = v :: tq) :
    step s = .next { s with agenda := rest, tickIn := tq, draws := s.draws + 1, now := v,
                            events := s.events ++ [.tick v] } := by
  have hans : State.tickAnswer { s with agenda := rest } = v :=
    (tickAnswer_of_head hq).trans (Nat.mod_eq_of_lt hv)
  refine (step_of_agenda hr hf ha).trans (congrArg Host.Outcome.next ?_)
  simp only [State.tickRead, hans]
  simp [State.drewTick, State.emit, hq]

/-- Within the bound the next turn begins (R242, R244). -/
theorem step_within (hp : s.pollStart < 2 ^ s.params.tickW) (hn : s.now < 2 ^ s.params.tickW)
    (hb : ticksFrom s.params s.pollStart s.now ≤ bound) (hf : s.seq ≠ .fatal) (hr : s.resetIn = false)
    (ha : s.agenda = .tickTest bound :: rest) :
    step s = .next { s with agenda := pollTurn (some bound) ++ rest } := by
  refine (step_of_agenda hr hf ha).trans (congrArg Host.Outcome.next ?_)
  exact if_neg (Nat.not_lt.2 ((elapsed_eq hp hn).le.trans hb))

/-- Beyond the bound Timeout is raised (R242, R244). -/
theorem step_beyond (hp : s.pollStart < 2 ^ s.params.tickW) (hn : s.now < 2 ^ s.params.tickW)
    (hb : bound < ticksFrom s.params s.pollStart s.now) (hf : s.seq ≠ .fatal) (hr : s.resetIn = false)
    (ha : s.agenda = .tickTest bound :: rest) :
    step s = .next (State.raise { s with agenda := rest } .timeout) := by
  refine (step_of_agenda hr hf ha).trans (congrArg Host.Outcome.next ?_)
  exact if_pos (hb.trans_eq (elapsed_eq hp hn).symm)

end Turn

/-! ## Loops -/

section Loop

variable {s : State} {rest : List Micro} {q : List (Option Answer)}

/-- Any number of not-ready turns of a poll without a deadline (R243). -/
theorem run_turns {fs : List Byte} (hfs : ∀ b ∈ fs, notReady s.params b) (hs : s.busFree) (hr : s.resetIn = false)
    (ha : s.agenda = pollTurn none ++ rest) (hq : s.btpIn = byteAnswers fs ++ q) :
    ∃ rx, run (2 * fs.length) s = .next { s with
      rx := rx, btpIn := q, draws := s.draws + fs.length,
      events := s.events ++ fs.map (fun b => sent (flagFrame s) [b]) } := by
  induction fs generalizing s with
  | nil =>
    have hq : s.btpIn = q := hq
    exact ⟨s.rx, by simp [← hq]⟩
  | cons b fs ih =>
    obtain ⟨rx, h⟩ := ih (s := { s with agenda := pollTurn none ++ rest, btpIn := byteAnswers fs ++ q,
                                        draws := s.draws + 1, rx := [b],
                                        events := s.events ++ [sent (flagFrame s) [b]] })
      (fun x hx => hfs x (List.mem_cons_of_mem _ hx)) hs hr rfl rfl
    refine ⟨rx, ?_⟩
    rw [List.length_cons, Nat.mul_add, Nat.mul_one]
    refine Eq.trans (run_succ (step_flagRead hs hr ha hq)) ?_
    refine Eq.trans (run_succ (step_again rfl (hfs b List.mem_cons_self) hs.1 hr rfl)) ?_
    refine h.trans ?_
    simp [ha, Nat.add_assoc, Nat.add_comm 1]

/-- Any number of not-ready turns of a poll with a deadline, all within the bound (R242). -/
theorem run_turns_within {bound : Nat} {turns : List (Byte × Nat)} {tq : List Nat}
    (hturns : ∀ p ∈ turns, notReady s.params p.1 ∧ p.2 < 2 ^ s.params.tickW ∧
      ticksFrom s.params s.pollStart p.2 ≤ bound)
    (hp : s.pollStart < 2 ^ s.params.tickW) (hs : s.busFree) (hr : s.resetIn = false)
    (ha : s.agenda = pollTurn (some bound) ++ rest) (hq : s.btpIn = byteAnswers (turns.map Prod.fst) ++ q)
    (htq : s.tickIn = turns.map Prod.snd ++ tq) :
    ∃ rx now, run (4 * turns.length) s = .next { s with
      rx := rx, now := now, btpIn := q, tickIn := tq, draws := s.draws + 2 * turns.length,
      events := s.events ++ turns.flatMap (fun p => [sent (flagFrame s) [p.1], .tick p.2]) } := by
  induction turns generalizing s with
  | nil =>
    have hq : s.btpIn = q := hq
    have htq : s.tickIn = tq := htq
    exact ⟨s.rx, s.now, by simp [← hq, ← htq]⟩
  | cons p turns ih =>
    obtain ⟨hb, hv, hbound⟩ := hturns p List.mem_cons_self
    obtain ⟨rx, now, h⟩ := ih (s := { s with agenda := pollTurn (some bound) ++ rest,
                                             btpIn := byteAnswers (turns.map Prod.fst) ++ q,
                                             tickIn := turns.map Prod.snd ++ tq, draws := s.draws + 1 + 1,
                                             rx := [p.1], now := p.2,
                                             events := s.events ++ [sent (flagFrame s) [p.1]] ++ [.tick p.2] })
      (fun x hx => hturns x (List.mem_cons_of_mem _ hx)) hp hs hr rfl rfl rfl
    refine ⟨rx, now, ?_⟩
    rw [List.length_cons, Nat.mul_add, Nat.mul_one]
    refine Eq.trans (run_succ (step_flagRead hs hr ha hq)) ?_
    refine Eq.trans (run_succ (step_toTick rfl hb hs.1 hr rfl)) ?_
    refine Eq.trans (run_succ (step_readTick hv hs.1 hr rfl htq)) ?_
    refine Eq.trans (run_succ (step_within hp hv hbound hs.1 hr rfl)) ?_
    refine h.trans ?_
    simp [ha, Nat.mul_add, Nat.add_assoc, Nat.add_comm 2]

end Loop

/-! ## Polls without a deadline -/

section Infinite

variable {s : State} {fs : List Byte} {q : List (Option Answer)} {r : Byte}

/-- A poll without a deadline that meets a ready byte (R243). -/
theorem run_poll_ready (hfs : ∀ b ∈ fs, notReady s.params b) (hready : isReady s.params r) (hs : s.busFree)
    (hr : s.resetIn = false) (ha : s.agenda = pollTurn none ++ endProgram .ok false)
    (hq : s.btpIn = byteAnswers (fs ++ [r]) ++ q) :
    run (2 * (fs.length + 1) + 2) s = .next (s.ended .ok q (fs.length + 1)
      ((fs ++ [r]).map (fun b => sent (flagFrame s) [b]) ++ [.rsp .ok []])) := by
  have hq' : s.btpIn = byteAnswers fs ++ (some (.ok [r]) :: q) := by rw [hq]; simp [byteAnswers]
  obtain ⟨rx, h⟩ := run_turns hfs hs hr ha hq'
  rw [show 2 * (fs.length + 1) + 2 = 2 * fs.length + 4 by ring]
  refine (run_add h).trans ?_
  refine Eq.trans (run_succ (step_flagRead hs hr ha rfl)) ?_
  refine Eq.trans (run_succ (step_ready rfl hready hs.1 hr rfl)) ?_
  refine Eq.trans (run_endProgram (r := .ok) (d := false) hr hs.1 rfl) ?_
  simp [State.ended, Nat.add_assoc]

/-- A poll without a deadline whose flag read is answered Fail (R240). -/
theorem run_poll_fail {i : Instr} (hc : s.cmd = some i) (hi : isInit (some i) = false) (hne : i ≠ .reprov)
    (hfs : ∀ b ∈ fs, notReady s.params b) (hs : s.busFree) (hr : s.resetIn = false)
    (ha : s.agenda = pollTurn none ++ endProgram .ok false) (hq : s.btpIn = byteAnswers fs ++ some .fail :: q) :
    run (2 * fs.length + 3) s = .next (s.ended .transport q (fs.length + 1)
      (fs.map (fun b => sent (flagFrame s) [b]) ++ [.btp (flagFrame s) .fail, .rsp .transport []])) := by
  obtain ⟨rx, h⟩ := run_turns hfs hs hr ha hq
  refine (run_add h).trans ?_
  refine Eq.trans (run_succ (step_fail (f := flagFrame s) (.first rfl rfl) hs hr ha rfl)) ?_
  refine Eq.trans (run_host_failed (i := i) hc hi hne hs hr rfl) ?_
  simp [State.ended, Nat.add_assoc]

/-- The first two steps of `eraseChip()`, both frames answered Ok (R248). -/
theorem run_erase {n : Nat} {rest : List Micro} (hs : s.busFree) (hr : s.resetIn = false)
    (ha : s.agenda = .op .wren :: .op .eraseChipFrame :: rest)
    (hq : s.btpIn = some (.ok []) :: some (.ok []) :: q) :
    run (n + 2) s = run n { s with
      agenda := rest, btpIn := q, draws := s.draws + 2,
      events := s.events ++ [sent (bareFrame s.params.op.wren s.ctx) [],
                             sent (bareFrame s.params.op.eraseChip s.ctx) []] } := by
  refine Eq.trans (run_succ (step_frame (f := bareFrame s.params.op.wren s.ctx) rfl rfl hs hr ha hq rfl)) ?_
  refine Eq.trans (run_succ (step_frame (f := bareFrame s.params.op.eraseChip s.ctx) rfl rfl hs hr rfl rfl rfl)) ?_
  simp [bareFrame, Frame.receives]

end Infinite

/-- The program of an infinite poll (R243). -/
theorem pollProgram_infinite {P : Params} (h : P.tInfinite ≠ 0) :
    pollProgram P P.tInfinite = pollTurn none ++ endProgram .ok false := by
  rw [pollProgram, if_neg h, if_pos rfl]

/-- Settles O23. -/
theorem infinitePollReadsUntilReady : Obligations.InfinitePollReadsUntilReady := by
  intro s fs r q hs hinf hfs hready hq
  refine ⟨_, exec_of_quiet rfl hs, ?_⟩
  refine Eq.trans (run_poll_ready hfs hready hs.1 hs.2.2 (pollProgram_infinite hinf) hq) ?_
  simp [State.ended, flagFrame]

/-- Settles O27. -/
theorem eraseChipPollsUntilReady : Obligations.EraseChipPollsUntilReady := by
  intro s fs r q hs hfs hready hq
  refine ⟨_, exec_of_quiet rfl hs, ?_⟩
  rw [show 2 * (fs.length + 1) + 4 = 2 * (fs.length + 1) + 2 + 2 by ring]
  refine Eq.trans (run_erase hs.1 hs.2.2 rfl hq) ?_
  refine Eq.trans (run_poll_ready hfs hready hs.1 hs.2.2 rfl rfl) ?_
  simp +arith [State.ended, flagFrame]

/-- Settles O28: the WREN fails, or ERASE.CHIP does. -/
theorem failedEraseDoesNotPoll : Obligations.FailedEraseDoesNotPoll := by
  intro s q hs
  refine ⟨fun hq => ⟨_, exec_of_quiet rfl hs, ?_⟩, fun hq => ⟨_, exec_of_quiet rfl hs, ?_⟩⟩
  · refine Eq.trans (run_succ (step_fail (f := bareFrame s.params.op.wren s.ctx) (.first rfl rfl) hs.1 hs.2.2 rfl
      hq)) ?_
    refine Eq.trans (run_host_failed (i := .eraseChip) rfl rfl nofun hs.1 hs.2.2 hq) ?_
    simp [State.ended]
  · refine Eq.trans (run_succ (step_frame (f := bareFrame s.params.op.wren s.ctx) rfl rfl hs.1 hs.2.2 rfl hq rfl)) ?_
    refine Eq.trans (run_succ (step_fail (f := bareFrame s.params.op.eraseChip s.ctx) (.first rfl rfl) hs.1 hs.2.2 rfl
      rfl)) ?_
    refine Eq.trans (run_host_failed (i := .eraseChip) rfl rfl nofun hs.1 hs.2.2 rfl) ?_
    simp [State.ended]

/-! ## Polls with a deadline -/

section Finite

variable {s : State} {bound t0 : Nat} {turns : List (Byte × Nat)} {q : List (Option Answer)} {tq : List Nat}

/-- The program of a finite poll (R242). -/
theorem pollProgram_finite {P : Params} (h0 : bound ≠ 0) (hinf : bound ≠ P.tInfinite) :
    pollProgram P bound = .readTick :: .startTimer :: (pollTurn (some bound) ++ endProgram .ok false) := by
  rw [pollProgram, if_neg h0, if_neg hinf]
  rfl

/-- A finite poll as far as all turns are not ready and within the bound (R242). -/
theorem run_finite (h0 : bound ≠ 0) (hinf : bound ≠ s.params.tInfinite) (ht0 : t0 < 2 ^ s.params.tickW)
    (hturns : ∀ p ∈ turns, notReady s.params p.1 ∧ p.2 < 2 ^ s.params.tickW ∧ ticksFrom s.params t0 p.2 ≤ bound)
    (hs : s.quiet) (hq : s.btpIn = byteAnswers (turns.map Prod.fst) ++ q)
    (htq : s.tickIn = t0 :: turns.map Prod.snd ++ tq) :
    ∃ t n rx now, exec (.poll bound) s = .next t ∧ run n t = .next { s with
      cmd := some (.poll bound), agenda := pollTurn (some bound) ++ endProgram .ok false, err := none,
      rx := rx, now := now, pollStart := t0, btpIn := q, tickIn := tq, draws := s.draws + (2 * turns.length + 1),
      events := s.events ++ ([.cmd (.poll bound), .tick t0] ++
        turns.flatMap (fun p => [sent (flagFrame s) [p.1], .tick p.2])) } := by
  obtain ⟨rx, now, h⟩ := run_turns_within
    (s := { s with cmd := some (.poll bound), agenda := pollTurn (some bound) ++ endProgram .ok false, err := none,
                   now := t0, pollStart := t0, tickIn := turns.map Prod.snd ++ tq, draws := s.draws + 1,
                   events := s.events ++ [.cmd (.poll bound)] ++ [.tick t0] })
    hturns ht0 hs.1 hs.2.2 rfl hq rfl
  refine ⟨_, 4 * turns.length + 2, rx, now, exec_of_quiet rfl hs, ?_⟩
  refine Eq.trans (run_succ (step_readTick ht0 hs.1.1 hs.2.2 (pollProgram_finite h0 hinf) htq)) ?_
  refine Eq.trans (run_step hs.2.2 hs.1.1 rfl rfl) ?_
  refine h.trans ?_
  simp [Nat.add_assoc, Nat.add_comm 1]

end Finite

/-- Settles O24: after the turns, a flag read, the ready test and the end. -/
theorem finitePollEndsWhenReady : Obligations.FinitePollEndsWhenReady := by
  intro s timeout t0 turns r q tq hs h0 hinf ht0 hturns hready hq htq
  have hq' : s.btpIn = byteAnswers (turns.map Prod.fst) ++ (some (.ok [r]) :: q) := by rw [hq]; simp [byteAnswers]
  obtain ⟨t, n, rx, now, ht, h⟩ := run_finite h0 hinf ht0 hturns hs hq' htq
  refine ⟨t, n + 4, ht, (run_add h).trans ?_⟩
  refine Eq.trans (run_succ (step_flagRead hs.1 hs.2.2 rfl rfl)) ?_
  refine Eq.trans (run_succ (step_ready rfl hready hs.1.1 hs.2.2 rfl)) ?_
  refine Eq.trans (run_endProgram (r := .ok) (d := false) hs.2.2 hs.1.1 rfl) ?_
  simp [State.ended, flagFrame, Nat.add_assoc]

/-- Settles O25: after the turns, one more whose tick is beyond the bound. -/
theorem finitePollTimesOut : Obligations.FinitePollTimesOut := by
  intro s timeout t0 turns b v q tq hs h0 hinf ht0 hturns hb hv hbeyond hq htq
  have hq' : s.btpIn = byteAnswers (turns.map Prod.fst) ++ (some (.ok [b]) :: q) := by rw [hq]; simp [byteAnswers]
  obtain ⟨t, n, rx, now, ht, h⟩ := run_finite h0 hinf ht0 hturns hs hq' htq
  refine ⟨t, n + 6, ht, (run_add h).trans ?_⟩
  refine Eq.trans (run_succ (step_flagRead hs.1 hs.2.2 rfl rfl)) ?_
  refine Eq.trans (run_succ (step_toTick rfl hb hs.1.1 hs.2.2 rfl)) ?_
  refine Eq.trans (run_succ (step_readTick hv hs.1.1 hs.2.2 rfl rfl)) ?_
  refine Eq.trans (run_succ (step_beyond ht0 hv hbeyond hs.1.1 hs.2.2 rfl)) ?_
  refine Eq.trans (run_host_raise (i := .poll timeout) rfl rfl nofun hs.1.1 hs.2.2) ?_
  simp [State.ended, flagFrame, Failure.toResult, Nat.add_assoc]

/-- Settles O26: the three polls, each with a Fail in place of its next flag read. -/
theorem pollEndsAtAFailedFlagRead : Obligations.PollEndsAtAFailedFlagRead := by
  intro s q hs
  refine ⟨fun fs hinf hfs hq => ⟨_, 2 * fs.length + 3, exec_of_quiet rfl hs, ?_⟩,
    fun timeout t0 turns tq h0 hinf ht0 hturns hq htq => ?_,
    fun fs hfs hq => ⟨_, (2 * fs.length + 3) + 2, exec_of_quiet rfl hs, ?_⟩⟩
  · refine Eq.trans (run_poll_fail (i := .poll s.params.tInfinite) rfl rfl nofun hfs hs.1 hs.2.2
      (pollProgram_infinite hinf) hq) ?_
    simp [State.ended, flagFrame]
  · obtain ⟨t, n, rx, now, ht, h⟩ := run_finite h0 hinf ht0 hturns hs hq htq
    refine ⟨t, n + 3, ht, (run_add h).trans ?_⟩
    refine Eq.trans (run_succ (step_fail (f := flagFrame s) (.first rfl rfl) hs.1 hs.2.2 rfl rfl)) ?_
    refine Eq.trans (run_host_failed (i := .poll timeout) rfl rfl nofun hs.1 hs.2.2 rfl) ?_
    simp [State.ended, flagFrame, Nat.add_assoc]
  · refine Eq.trans (run_erase hs.1 hs.2.2 rfl hq) ?_
    refine Eq.trans (run_poll_fail (i := .eraseChip) rfl rfl nofun hfs hs.1 hs.2.2 rfl rfl) ?_
    simp +arith [State.ended, flagFrame]

end Sys2Proof.Machine

/-! Proofs for 46_memory_map.md, 47_bus_reset.md, 20_memory.md section 9 and the steps of 10_state.md and
60_exceptions.md: memory-map setup, window accesses, the bus reset, the pins, FATAL and hardware reset. -/

namespace Sys2Proof.Machine

open Sys2Proof

/-! ## Guards that stop a call -/

theorem onBus_of_fatal {s t : State} (hf : s.seq = .fatal) : onBus s t = .fault .halted := if_pos hf

theorem onBus_of_held {s t : State} (hf : s.seq ≠ .fatal) (hp : s.pinOwner = .seq) :
    onBus s t = .refused .pinsHeld := (if_neg hf).trans (if_pos hp)

/-- Settles O32: every call and every host command looks at `seq` first. -/
theorem fatalIsAbsorbing : Obligations.FatalIsAbsorbing := by
  intro s hf
  refine ⟨fun hr => by simp [step, hr, hf], fun i hi => ?_, fun _ => onBus_of_fatal hf, fun _ => onBus_of_fatal hf,
    onBus_of_fatal hf, if_pos hf, fun _ _ => if_pos hf⟩
  rcases hi with hi | hi
  · exact (exec_host hi s).trans (if_pos hf)
  · obtain ⟨f, hff⟩ := wire_firstFrame s.params s.ctx hi
    exact (wire_exec hi hff).trans (onBus_of_fatal hf)

/-- Settles O35. -/
theorem lineNeedsThePins : Obligations.LineNeedsThePins := by
  intro s l v hf
  refine ⟨fun hp => ?_, fun hp => (if_neg hf).trans (if_pos hp)⟩
  exact (if_neg hf).trans (if_neg (by rw [hp]; nofun))

theorem frameOf_of_isWire (P : Params) (c : Ctx) {i : Instr} (hi : i.isWire = true) : ∃ f, frameOf P c i = some f := by
  cases i <;> first
    | exact absurd hi Bool.false_ne_true
    | exact ⟨_, rfl⟩

/-- Settles O36: every call is guarded by the owner of the pins. -/
theorem noBusCallWhilePinsAreHeld : Obligations.NoBusCallWhilePinsAreHeld := by
  intro s hf hp
  refine ⟨fun i hi => ?_, fun m rest hr ha hm => ?_, fun tw tr more hr ha hmm hw hrd hreq => ?_⟩
  · rcases hi with hi | ⟨tw, rfl⟩ | ⟨tr, rfl⟩ | rfl
    · obtain ⟨f, hff⟩ := wire_firstFrame s.params s.ctx hi
      exact (wire_exec hi hff).trans (onBus_of_held hf hp)
    all_goals exact onBus_of_held hf hp
  · rw [step_of_agenda hr hf ha]
    rcases hm with ⟨i, rfl, hi⟩ | ⟨rfl, hw⟩ | rfl | rfl
    · obtain ⟨f, hff⟩ := frameOf_of_isWire s.params s.ctx hi
      simp only [runMicro, secondStep, hff]
      exact onBus_of_held hf hp
    · simp only [runMicro, exitWindowStep, hw]
      exact onBus_of_held hf hp
    · exact onBus_of_held hf hp
    · exact onBus_of_held hf hp
  · rw [step_of_idle hr hf ha]
    rcases hreq with ⟨a, n, hin⟩ | ⟨a, v, hin⟩
    · simp only [serveHost, hin, hrd, windowStep_of_mapped hmm]
      exact onBus_of_held hf hp
    · simp only [serveHost, hin, hw, windowStep_of_mapped hmm]
      exact onBus_of_held hf hp

/-! ## Memory-map setup -/

section Map

variable {s : State} {i : Instr} {c : MmCall} {rest : List Micro} {q : List (Option MmAnswer)}

theorem exec_mapCall (hc : MakesMapCall s.params i c) : exec i s = issueMm (.op i) c s := by
  cases hc <;> rfl

/-- A memory-map call answered Ok (R256). -/
theorem mapCall_ok (hc : MakesMapCall s.params i c) (hs : s.busFree) (hq : s.mmIn = some .ok :: q) :
    exec i s = .next (State.configured { s with mmIn := q, draws := s.draws + 1,
                                                events := s.events ++ [.mm c .ok] } c) := by
  rw [exec_mapCall hc, issueMm, onBus_of_free hs, State.mmBang, mmAnswer_of_head hq]
  simp only [State.drewMm, State.emit, hq, List.tail_cons]

theorem step_mapCall (hc : MakesMapCall s.params i c) (hs : s.busFree) (hr : s.resetIn = false)
    (ha : s.agenda = .op i :: rest) (hq : s.mmIn = some .ok :: q) :
    step s = .next (State.configured { s with agenda := rest, mmIn := q, draws := s.draws + 1,
                                              events := s.events ++ [.mm c .ok] } c) :=
  (step_of_agenda hr hs.1 ha).trans (mapCall_ok (s := { s with agenda := rest }) hc hs hq)

/-- A memory-map call answered Fail leaves the step to FATAL (R259). -/
theorem mapCall_fail (hc : MakesMapCall s.params i c) (hs : s.busFree) (hq : s.mmIn = some .fail :: q) :
    exec i s = .next { s with agenda := [.enterFatal], mmIn := q, draws := s.draws + 1,
                              events := s.events ++ [.mm c .fail] } := by
  rw [exec_mapCall hc, issueMm, onBus_of_free hs, State.mmBang, mmAnswer_of_head hq]
  simp only [State.drewMm, State.emit, hq, List.tail_cons]

/-- After a failed memory-map call the block halts in the next step. -/
theorem run_mapCall_fail (hc : MakesMapCall s.params i c) (hs : s.busFree) (hr : s.resetIn = false)
    (ha : s.agenda = .op i :: rest) (hq : s.mmIn = some .fail :: q) :
    run 2 s = .next { s with seq := .fatal, cmd := none, agenda := [], mmIn := q, draws := s.draws + 1,
                             events := s.events ++ [.mm c .fail] } := by
  have hcall := mapCall_fail (s := { s with agenda := rest }) hc hs hq
  refine Eq.trans (run_succ ((step_of_agenda hr hs.1 ha).trans hcall)) ?_
  exact Eq.trans (run_step (n := 0) hr hs.1 rfl rfl) rfl

end Map

/-- Settles O29. -/
theorem mapCallsConfigureThePrimitive : Obligations.MapCallsConfigureThePrimitive := by
  intro s tw tr q hs hq
  exact ⟨mapCall_ok (.setWrite tw) hs hq, mapCall_ok (.setRead tr) hs hq, mapCall_ok .enable hs hq⟩

/-- Settles O30: three calls, `mm`, the end. -/
theorem memoryMapSetupSucceeds : Obligations.MemoryMapSetupSucceeds := by
  intro s q hs hq
  refine ⟨writeTemplate s.params s.ctx, readTemplate s.params s.ctx, rfl, rfl, _, exec_of_quiet rfl hs, ?_⟩
  refine Eq.trans (run_succ (step_mapCall (.setWrite _) hs.1 hs.2.2 rfl hq)) ?_
  refine Eq.trans (run_succ (step_mapCall (.setRead _) hs.1 hs.2.2 rfl rfl)) ?_
  refine Eq.trans (run_succ (step_mapCall .enable hs.1 hs.2.2 rfl rfl)) ?_
  refine Eq.trans (run_step hs.2.2 hs.1.1 rfl rfl) ?_
  refine Eq.trans (run_endProgram (r := .ok) (d := false) hs.2.2 hs.1.1 rfl) ?_
  simp [State.ended, State.configured]

theorem step_of_fatal {s : State} (hr : s.resetIn = false) (hf : s.seq = .fatal) : step s = .fault .halted := by
  simp [step, hr, hf]

/-- Settles O31: the call that fails is the first, the second or the third. -/
theorem failedMapSetupHalts : Obligations.FailedMapSetupHalts := by
  intro s k q hs hk hq
  match k, hk with
  | 0, _ =>
    refine ⟨_, _, exec_of_quiet rfl hs, run_mapCall_fail (.setWrite _) hs.1 hs.2.2 rfl hq, rfl, rfl, rfl, rfl, ?_,
      step_of_fatal hs.2.2 rfl⟩
    simp
  | 1, _ =>
    refine ⟨_, _, exec_of_quiet rfl hs, Eq.trans (run_succ (step_mapCall (.setWrite _) hs.1 hs.2.2 rfl hq))
      (run_mapCall_fail (.setRead _) hs.1 hs.2.2 rfl rfl), rfl, rfl, rfl, rfl, ?_, step_of_fatal hs.2.2 rfl⟩
    simp [State.configured]
  | 2, _ =>
    refine ⟨_, _, exec_of_quiet rfl hs, Eq.trans (run_succ (step_mapCall (.setWrite _) hs.1 hs.2.2 rfl hq))
      (Eq.trans (run_succ (step_mapCall (.setRead _) hs.1 hs.2.2 rfl rfl))
        (run_mapCall_fail .enable hs.1 hs.2.2 rfl rfl)), rfl, rfl, rfl, rfl, ?_, step_of_fatal hs.2.2 rfl⟩
    simp [State.configured]

/-! ## Window accesses -/

/-- A window access answered Ok is one event and nothing else (R64). -/
theorem windowStep_ok {s : State} {more : List HostReq} {o : Option Template} {x : Template} {frame : Template → Frame}
    {l : List Byte} {q : List (Option Answer)} (hs : s.busFree) (hm : s.mm = true) (ho : o = some x)
    (hq : s.btpIn = some (.ok l) :: q) (hl : l.length = (frame x).rxLen) :
    windowStep s more o frame = .next { s with inbox := more, btpIn := q, draws := s.draws + 1,
                                               events := s.events ++ [.window (frame x) (.ok l)] } := by
  rw [ho, windowStep_of_mapped hm, onBus_of_free hs, State.windowBang, btpAnswer_of_ok hq hl]
  simp only [State.drewBtp, State.emit, hq, List.tail_cons]

/-- Settles O33. -/
theorem windowAccessesAreTheTemplatesFrames : Obligations.WindowAccessesAreTheTemplatesFrames := by
  intro s tw tr a n v l more q hs hm hw hr
  have hidle := step_of_idle hs.2.2 hs.1.1 (idle_of_not_busy hs.2.1).2.1
  refine ⟨fun hin hq hl => ?_, fun hin hq => ?_⟩
  · rw [hidle, serveHost, hin]
    exact windowStep_ok hs.1 hm hr hq hl
  · rw [hidle, serveHost, hin]
    exact windowStep_ok hs.1 hm hw hq rfl

/-! ## The bus reset -/

/-- Any number of line steps while the sequencer owns the pins (R267). -/
theorem run_lines {ps : List (SignalLine × Bool)} {s : State} {rest : List Micro} (hr : s.resetIn = false)
    (hf : s.seq ≠ .fatal) (hp : s.pinOwner = .seq) (ha : s.agenda = ps.map (fun p => .op (.line p.1 p.2)) ++ rest) :
    run ps.length s = .next { s with agenda := rest, events := s.events ++ ps.map (fun p => .line p.1 p.2) } := by
  induction ps generalizing s with
  | nil =>
    have ha : s.agenda = rest := ha
    simp [← ha]
  | cons p ps ih =>
    have hline := (lineNeedsThePins { s with agenda := ps.map (fun p => .op (.line p.1 p.2)) ++ rest } p.1 p.2 hf).1 hp
    refine Eq.trans (run_step hr hf ha hline) ?_
    refine Eq.trans (ih hr hf hp rfl) ?_
    simp

/-- The rest of a bus reset after `deinit` (R269). -/
theorem run_busReset {s : State} {rest : List Micro} (hr : s.resetIn = false) (hf : s.seq ≠ .fatal)
    (ha : s.agenda = busResetProgram s.params ++ rest) :
    run (s.params.resetSeq.length + 3) s = .next { s with
      agenda := rest, pinOwner := .btp,
      events := s.events ++ (s.params.resetSeq.map (fun p => .line p.1 p.2) ++ [.busReinit]) } := by
  simp only [busResetProgram, toggleProgram, List.append_assoc, List.cons_append, List.nil_append] at ha
  have hlines := run_lines (ps := s.params.resetSeq) (rest := .givePins :: .reinit :: rest)
    (s := { s with pinOwner := .seq, agenda := s.params.resetSeq.map (fun p => .op (.line p.1 p.2)) ++
                     .givePins :: .reinit :: rest }) hr hf rfl rfl
  rw [show s.params.resetSeq.length + 3 = s.params.resetSeq.length + 2 + 1 from rfl]
  refine Eq.trans (run_step hr hf ha rfl) ?_
  refine Eq.trans (run_add hlines) ?_
  refine Eq.trans (run_step hr hf rfl rfl) ?_
  refine Eq.trans (run_step (n := 0) (m := .reinit) (rest := rest) hr hf rfl rfl) ?_
  simp [State.emit]

/-- Settles O34. -/
theorem busResetPlaysTheSequence : Obligations.BusResetPlaysTheSequence := by
  intro s hs hr
  refine ⟨_, if_neg hs.1, ?_⟩
  refine Eq.trans (run_busReset (s := (s.emit .busDeinit).push (busResetProgram s.params)) hr hs.1 rfl) ?_
  simp [State.emit, State.push, hs.2]

/-! ## Steps -/

/-- Settles O46. -/
theorem stepRunsTheDecodedInstruction : Obligations.StepRunsTheDecodedInstruction := by
  intro s i hr hf
  refine ⟨fun word more ha hin hd => ?_, fun rest ha => step_of_agenda hr hf ha⟩
  rw [step_of_idle hr hf ha, serveHost, hin]
  simp only [hd]

/-- Settles O47. -/
theorem hardwareResetFromAnyState : Obligations.HardwareResetFromAnyState := by
  intro s hr
  exact ⟨s.hwReset, if_pos hr, rfl, rfl, rfl, rfl, rfl, rfl, rfl, rfl, rfl, rfl, rfl⟩

end Sys2Proof.Machine

/-! Proofs for 43_bringup.md and 44_reprovision.md: the steps the two sequences share, each said once, and the phases
that have a statement of their own. -/

namespace Sys2Proof.Machine

open Sys2Proof

/-! ## Steps of the two sequences -/

section Sequence

variable {s : State} {rest : List Micro}

theorem step_advance {x : Seq} (hx : s.seq = x) (hf : x ≠ .fatal) (hr : s.resetIn = false)
    (ha : s.agenda = .advance :: rest) : step s = .next { s with seq := x.succ, agenda := rest } := by
  subst hx
  exact step_of_agenda hr hf ha

theorem step_derive {w : Nat} {dtr : Bool} {cfg : Record} {c : Ctx} (hc : deriveCtx s.params w dtr cfg = some c)
    (hf : s.seq ≠ .fatal) (hr : s.resetIn = false) (ha : s.agenda = .op (.derive w dtr cfg) :: rest) :
    step s = .next { s with agenda := rest, ret := .ctx c } := by
  refine (step_of_agenda hr hf ha).trans ?_
  change Host.Outcome.next { s with agenda := rest, ret := _ } = _
  rw [hc]

/-- The ready test (R207). -/
theorem step_checkReady {b : Byte} (hrx : s.rx = [b]) (hf : s.seq ≠ .fatal) (hr : s.resetIn = false)
    (ha : s.agenda = .checkReady :: rest) :
    step s = .next (if isReady s.params b then { s with agenda := rest }
      else State.raise { s with agenda := rest } .verification) := by
  refine (step_of_agenda hr hf ha).trans (congrArg Host.Outcome.next ?_)
  unfold State.checkReady
  rw [hrx]
  rfl

/-- The block-protect test (R225, R226). -/
theorem step_checkProtect {b want : Byte} (hrx : s.rx = [b]) (hf : s.seq ≠ .fatal) (hr : s.resetIn = false)
    (ha : s.agenda = .checkProtect want :: rest) :
    step s = .next (if b &&& s.params.bpMask = want then { s with agenda := rest }
      else State.raise { s with agenda := rest } .verification) := by
  refine (step_of_agenda hr hf ha).trans (congrArg Host.Outcome.next ?_)
  unfold State.checkProtect
  rw [hrx]
  rfl

/-- The comparison of a read-back (R208, R209, R228). -/
theorem step_verify {e : Expected} (hf : s.seq ≠ .fatal) (hr : s.resetIn = false) (ha : s.agenda = .verify e :: rest) :
    step s = .next (if s.blk = s.expected e then { s with agenda := rest }
      else State.raise { s with agenda := rest } .verification) := by
  refine (step_of_agenda hr hf ha).trans ?_
  cases e <;> rfl

/-- A failed test of bring-up ends it in ERROR (R211, R286). -/
theorem run_init_raise {cfg : Record} {w : Nat} {dtr : Bool} {k : Failure} (hc : s.cmd = some (.init cfg w dtr))
    (hf : s.seq ≠ .fatal) (hr : s.resetIn = false) :
    run 3 (s.raise k) = .next { s.ended k.toResult s.btpIn 0 [.rsp k.toResult []] with seq := .error } := by
  have h := run_raise (k := k) hr hf (by rw [hc]; nofun)
  rw [hc] at h
  exact h

/-- A frame of bring-up answered Fail ends it in ERROR (R211, R286). -/
theorem run_init_failed {cfg : Record} {w : Nat} {dtr : Bool} {f : Frame} {q : List (Option Answer)}
    (hc : s.cmd = some (.init cfg w dtr)) (hs : s.busFree) (hr : s.resetIn = false) (hq : s.btpIn = some .fail :: q) :
    run 3 ((s.drewBtp.emit (.btp f .fail)).raise .transport) =
      .next { s.ended .transport q 1 [.btp f .fail, .rsp .transport []] with seq := .error } := by
  have h := run_failed (f := f) hr hs (by rw [hc]; nofun) hq
  rw [hc] at h
  exact h

end Sequence

/-! ## ENABLE_WRITE, SELECT_MODE and the tests -/

/-- Settles O38: both frames answered, the first failed, the second failed. -/
theorem enableWriteState : Obligations.EnableWriteState := by
  intro s cfg w dtr rest q hc hx hctx hp hr ha
  have hf : s.seq ≠ .fatal := by rw [hx]; nofun
  have hadv := step_advance hx nofun hr ha
  refine ⟨fun hq => ?_, fun hq => ?_, fun hq => ?_⟩
  · have h3 : run 3 s = .next { s with
        seq := .enableWrite, agenda := .advance :: rest, btpIn := q, draws := s.draws + 2,
        events := s.events ++ [sent (bareFrame s.params.op.clfsr (ctxDefault s.params)) [],
                               sent (bareFrame s.params.op.wren (ctxDefault s.params)) []] } := by
      refine Eq.trans (run_succ hadv) ?_
      refine Eq.trans (run_succ (step_frame (i := .clfsr) rfl rfl ⟨nofun, hp⟩ hr rfl hq rfl)) ?_
      refine Eq.trans (run_succ (n := 0) (step_frame (i := .wren) rfl rfl ⟨nofun, hp⟩ hr rfl rfl rfl)) ?_
      simp [Seq.succ, hctx, bareFrame, Frame.receives]
    exact ⟨h3, (run_add (n := 1) h3).trans (run_succ (n := 0) (step_advance (x := .enableWrite) rfl nofun hr rfl))⟩
  · refine Eq.trans (run_succ hadv) ?_
    refine Eq.trans (run_succ (step_fail (.first (i := .clfsr) rfl rfl) ⟨nofun, hp⟩ hr rfl hq)) ?_
    refine Eq.trans (run_init_failed hc ⟨nofun, hp⟩ hr hq) ?_
    simp [State.ended, hctx]
  · refine Eq.trans (run_succ hadv) ?_
    refine Eq.trans (run_succ (step_frame (i := .clfsr) rfl rfl ⟨nofun, hp⟩ hr rfl hq rfl)) ?_
    refine Eq.trans (run_succ (step_fail (.first (i := .wren) rfl rfl) ⟨nofun, hp⟩ hr rfl rfl)) ?_
    refine Eq.trans (run_init_failed hc ⟨nofun, hp⟩ hr rfl) ?_
    simp [State.ended, hctx]

/-- Settles O39. -/
theorem selectModeCommitsTheContext : Obligations.SelectModeCommitsTheContext := by
  intro s cfg w dtr c rest hx hr hc ha
  have h2 : run 2 s = .next { s with seq := .selectMode, agenda := .commitCtx :: .advance :: rest, ret := .ctx c } := by
    refine Eq.trans (run_succ (step_advance hx nofun hr ha)) ?_
    exact Eq.trans (run_succ (n := 0) (step_derive hc nofun hr rfl)) rfl
  have h3 := (run_add (n := 1) h2).trans (run_step (n := 0) (m := .commitCtx) hr nofun rfl rfl)
  exact ⟨h2, h3, (run_add (n := 1) h3).trans (run_succ (n := 0) (step_advance (x := .selectMode) rfl nofun hr rfl))⟩

/-- Settles O40. -/
theorem verifyStatusNeedsReady : Obligations.VerifyStatusNeedsReady := by
  intro s cfg w dtr b rest hc hx hr hrx ha
  have hf : s.seq ≠ .fatal := by rw [hx]; nofun
  have htest := step_checkReady hrx hf hr ha
  refine ⟨fun hb => ?_, fun hb => htest.trans (by rw [if_pos hb])⟩
  rw [if_neg (by simp [hb])] at htest
  exact Eq.trans (run_succ htest) (run_init_raise (s := { s with agenda := rest }) hc hf hr)

/-- Settles O45. -/
theorem protectTestsIgnoreReady : Obligations.ProtectTestsIgnoreReady := by
  intro s b want rest hc he hr hf hrx ha
  have htest := step_checkProtect hrx hf hr ha
  refine ⟨fun hb => htest.trans (by rw [if_pos hb]), fun hb => ?_⟩
  rw [htest, if_neg hb, raise_of_reprov (s := { s with agenda := rest }) hc, he]
  rfl

/-! ## The cleanup -/

/-- The first error of a re-provisioning after a frame of its cleanup: a failure counts where none stands (R229). -/
def errAfter (e : Option Failure) (a : Answer) : Option Failure :=
  if a = .fail then e.or (some .transport) else e

theorem errAfter_some (k : Failure) (a : Answer) : errAfter (some k) a = some k := by simp [errAfter]

theorem errAfter_none (a : Answer) : errAfter none a = if a = .fail then some .transport else none := rfl

theorem concluded_eq {s : State} : s.concluded = s.err.elim .ok Failure.toResult := by
  unfold State.concluded
  cases s.err <;> rfl

section Cleanup

variable {s : State} {a : Answer} {q : List (Option Answer)}

/-- A frame of the cleanup, answered Ok or Fail (R229). -/
theorem step_plain {m : Micro} {f : Frame} {onOk onFail next rest : List Micro}
    (hi : IssuesPlain s.params s.ctx m f onOk onFail) (hn : next = if a = .fail then onFail else onOk)
    (hw : m = .exitWindow → s.privWin = true) (hs : s.busFree) (hr : s.resetIn = false) (ha : s.agenda = m :: rest)
    (hmem : a ∈ [Answer.ok [], .fail]) (hq : s.btpIn = some a :: q) :
    step s = .next { s with
      agenda := next ++ rest, err := errAfter s.err a, btpIn := q, draws := s.draws + 1,
      events := s.events ++ [.btp f a] } := by
  have hrun : runMicro m { s with agenda := rest } = issuePlain m f onOk onFail { s with agenda := rest } := by
    cases hi with
    | exitWindow => exact if_pos (hw rfl)
    | exitWrite => rfl
    | disableWrite => rfl
  have hl : ([] : List Byte).length = f.rxLen := by cases hi <;> rfl
  rw [step_of_agenda hr hs.1 ha, hrun, issuePlain, onBus_of_free (s := { s with agenda := rest }) hs, State.btpPlain]
  simp only [List.mem_cons, List.not_mem_nil, or_false] at hmem
  rcases hmem with rfl | rfl
  · rw [btpAnswer_of_ok (s := { s with agenda := rest }) hq hl]
    simp [State.drewBtp, State.emit, State.push, errAfter, hq, hn]
  · rw [btpAnswer_of_fail (s := { s with agenda := rest }) hq]
    simp [State.drewBtp, State.emit, State.push, errAfter, hq, hn]

/-- WRDI, the result and the response end the cleanup (R229, R231). -/
theorem run_disableWrite {r : Result} (hs : s.busFree) (hr : s.resetIn = false)
    (ha : s.agenda = [.disableWrite, .conclude, .giveRsp false]) (hmem : a ∈ [Answer.ok [], .fail])
    (hq : s.btpIn = some a :: q) (h : r = (errAfter s.err a).elim .ok Failure.toResult) :
    run 3 s = .next (s.ended r q 1 [.btp (bareFrame s.params.op.wrdi s.ctx) a, .rsp r []]) := by
  refine Eq.trans (run_succ (step_plain .disableWrite (ite_self []).symm nofun hs hr ha hmem hq)) ?_
  refine Eq.trans (run_step (m := .conclude) (rest := [.giveRsp false]) hr hs.1 rfl rfl) ?_
  refine Eq.trans (run_step (n := 0) (m := .giveRsp false) (rest := []) hr hs.1 rfl rfl) ?_
  subst h
  simp [State.ended, State.respond, State.rspData, concluded_eq]

end Cleanup

/-- Settles O44: the window open and left, open and its WREN failed, and closed. -/
theorem cleanupAlwaysRuns : Obligations.CleanupAlwaysRuns := by
  intro s a1 a2 a3 q hc ha hs hr h1 h2 h3
  refine ⟨fun hw e hq => ?_, fun hw e hq => ?_, fun hw hq => ?_⟩
  · subst e
    refine ⟨6, (errAfter (errAfter s.err a2) a3).elim .ok Failure.toResult, ?_, fun k hk => ?_, fun hk => ?_⟩
    · refine Eq.trans (run_succ (step_plain (next := [.exitWrite, .closeWindow]) .exitWindow rfl (fun _ => hw) hs hr ha
        h1 hq)) ?_
      refine Eq.trans (run_succ (step_plain .exitWrite (ite_self []).symm nofun hs hr rfl h2 rfl)) ?_
      refine Eq.trans (run_step (m := .closeWindow) hr hs.1 rfl rfl) ?_
      refine Eq.trans (run_disableWrite hs hr rfl h3 rfl rfl) ?_
      simp [State.ended, errAfter]
    · rw [hk, errAfter_some, errAfter_some]
      rfl
    · rw [hk, errAfter_none]
      by_cases e2 : a2 = .fail <;> by_cases e3 : a3 = .fail <;> simp [e2, e3, errAfter, Failure.toResult]
  · subst e
    refine ⟨5, (errAfter (errAfter s.err .fail) a3).elim .ok Failure.toResult, ?_, fun k hk => ?_, fun hk => ?_⟩
    · refine Eq.trans (run_succ (step_plain (next := [.closeWindow]) .exitWindow rfl (fun _ => hw) hs hr ha h1 hq)) ?_
      refine Eq.trans (run_step (m := .closeWindow) hr hs.1 rfl rfl) ?_
      refine Eq.trans (run_disableWrite hs hr rfl h3 rfl rfl) ?_
      simp [State.ended]
    · rw [hk, errAfter_some, errAfter_some]
      rfl
    · rw [hk, errAfter_none, if_pos rfl, errAfter_some]
      rfl
  · refine ⟨4, (errAfter s.err a3).elim .ok Failure.toResult, ?_, fun k hk => ?_, fun hk => ?_⟩
    · have hskip : runMicro .exitWindow { s with agenda := [.disableWrite, .conclude, .giveRsp false] } =
          .next { s with agenda := [.disableWrite, .conclude, .giveRsp false] } := by
        simp [runMicro, exitWindowStep, hw]
      refine Eq.trans (run_step hr hs.1 ha hskip) ?_
      refine Eq.trans (run_disableWrite hs hr rfl h3 hq rfl) ?_
      simp [State.ended]
    · rw [hk, errAfter_some]
      rfl
    · rw [hk, errAfter_none]
      by_cases e3 : a3 = .fail <;> simp [e3, Failure.toResult]

/-! ## Block transfers -/

/-- The opcode of a one-byte read of a space (R164). -/
def ConfigSpace.readOp (sp : ConfigSpace) (P : Params) : Byte :=
  match sp with
  | .nvcr => P.op.rdnvcr
  | .vcr => P.op.rdvcr

/-- The opcode of a one-byte write of a space (R164). -/
def ConfigSpace.writeOp (sp : ConfigSpace) (P : Params) : Byte :=
  match sp with
  | .nvcr => P.op.wrnvcr
  | .vcr => P.op.wrvcr

theorem frameOf_readCmd (sp : ConfigSpace) (P : Params) (c : Ctx) (k : SubregIndex) :
    frameOf P c (sp.readCmd k) = some (subregReadFrame (sp.readOp P) c k) := by
  cases sp <;> rfl

theorem frameOf_writeCmd (sp : ConfigSpace) (P : Params) (c : Ctx) (k : SubregIndex) (b : Byte) :
    frameOf P c (sp.writeCmd k b) = some (subregWriteFrame (sp.writeOp P) c k b) := by
  cases sp <;> rfl

section Blocks

variable {s : State} {sp : ConfigSpace} {img : Image} {skip : List SubregIndex} {rest : List Micro}
  {q : List (Option Answer)}

/-- A whole block write, every frame answered Ok (R168). -/
theorem Reaches.writeBlock (hl : img.length = s.params.regBlockLen) (hs : s.busFree) (hr : s.resetIn = false)
    (ha : s.agenda = Machine.writeBlock sp img skip ++ rest)
    (hq : s.btpIn = okAnswers (2 * (covered s.params skip).length) ++ q) :
    Reaches s { s with agenda := rest, btpIn := q, draws := s.draws + 2 * (covered s.params skip).length,
                       events := s.events ++ blockWriteEvents s.params s.ctx (sp.writeOp s.params) img skip } := by
  rw [← coveredBytes_length hl] at hq ⊢
  exact Reaches.writes (frameOf_writeCmd sp) (coveredBytes img skip) hs hr ha hq

/-- A whole block read, answered with the bytes of an image (R167). -/
theorem Reaches.readBlock (hl : img.length = s.params.regBlockLen) (hs : s.busFree) (hr : s.resetIn = false)
    (ha : s.agenda = Machine.readBlock s.params sp skip ++ rest)
    (hq : s.btpIn = byteAnswers (imageBytes img skip) ++ q) :
    Reaches s { s with agenda := rest, btpIn := q, draws := s.draws + (covered s.params skip).length,
                       rx := ((imageBytes img skip).getLast?.map (fun b => [b])).getD s.rx, blk := imageBytes img skip,
                       events := s.events ++ blockReadEvents s.ctx (sp.readOp s.params) img skip } := by
  rw [readBlock_eq hl] at ha
  refine (Reaches.micro (m := .clearBlk) hr hs.1 ha rfl).trans ?_
  have hreads := Reaches.reads (frameOf_readCmd sp) (coveredBytes img skip) (rest := rest)
    (s := { s with agenda := _, blk := [] }) hs hr rfl hq
  refine hreads.of_eq ?_
  simp [imageBytes, blockReadEvents, coveredBytes_length hl, List.getLast?_map, Function.comp_def]

end Blocks

/-- Settles O41: the block read, then the comparison. -/
theorem readBackIsComparedByteByByte : Obligations.ReadBackIsComparedByteByByte := by
  intro s img sp op e rest q hs hr hmem hl
  obtain ⟨rfl, he⟩ : op = sp.readOp s.params ∧
      ∀ t : State, t.expected e = if e = .nvShadow then t.nvShadow else t.vShadow := by
    simp only [List.mem_cons, Prod.mk.injEq, List.not_mem_nil, or_false] at hmem
    rcases hmem with ⟨rfl, rfl, rfl⟩ | ⟨rfl, rfl, rfl⟩ <;> exact ⟨rfl, fun _ => rfl⟩
  refine ⟨fun cfg w dtr hc ha hq => ?_, fun want skip hc herr ha hq => ?_⟩
  · rw [← imageBytes_nil img] at hq
    refine Reaches.trans (Reaches.readBlock hl hs hr ha hq) ?_
    refine Reaches.trans (Reaches.step (step_verify hs.1 hr rfl)) ?_
    simp only [he, imageBytes_nil, covered_nil_length, eq_comm (a := img)]
    generalize (if e = .nvShadow then s.nvShadow else s.vShadow) = shadow
    split
    · exact Reaches.refl _
    · refine Reaches.of_eq ⟨3, run_init_raise hc hs.1 hr⟩ ?_
      simp [State.ended, Failure.toResult]
  · refine Reaches.trans (Reaches.readBlock hl hs hr ha hq) ?_
    refine Reaches.of_eq (Reaches.step (step_verify hs.1 hr rfl)) ?_
    simp only [State.expected]
    by_cases hm : imageBytes img skip = imageBytes want skip
    · simp [hm, herr]
    · simp only [hm, if_false]
      refine Eq.trans (raise_of_reprov hc) ?_
      simp [herr]

end Sys2Proof.Machine

/-! Proofs for 43_bringup.md and 44_reprovision.md: the two sequences with good answers, each the chain of its
phases. -/

namespace Sys2Proof.Machine

open Sys2Proof

theorem nvImage_length (P : Params) (c : Record) : (nvImage P c).length = P.regBlockLen := encodeImage_length _ _

theorem vImage_length (P : Params) (c : Record) : (vImage P c).length = P.regBlockLen := encodeImage_length _ _

/-! ## Phases -/

section Phase

variable {s : State} {rest : List Micro} {q : List (Option Answer)}

theorem step_storeNv {img : Image} (hret : s.ret = .image img) (hf : s.seq ≠ .fatal) (hr : s.resetIn = false)
    (ha : s.agenda = .storeNv :: rest) : step s = .next { s with agenda := rest, nvShadow := img } := by
  refine (step_of_agenda hr hf ha).trans (congrArg Host.Outcome.next ?_)
  simp only [State.storeNv, hret]

theorem step_storeV {img : Image} (hret : s.ret = .image img) (hf : s.seq ≠ .fatal) (hr : s.resetIn = false)
    (ha : s.agenda = .storeV :: rest) : step s = .next { s with agenda := rest, vShadow := img } := by
  refine (step_of_agenda hr hf ha).trans (congrArg Host.Outcome.next ?_)
  simp only [State.storeV, hret]

/-- State RESET: the bus reset, the window and the framing (R202). -/
theorem Reaches.resetPhase (hs : s.busFree) (hr : s.resetIn = false) (ha : s.agenda = stepsReset ++ rest) :
    Reaches s { s with seq := .reset, mm := false, ctx := ctxDefault s.params, agenda := rest,
                       events := s.events ++ busResetEvents s.params } := by
  refine Reaches.trans (Reaches.micro hr hs.1 ha rfl) ?_
  refine Reaches.trans (Reaches.micro (m := .op .busReset) hr nofun rfl rfl) ?_
  refine Reaches.trans ⟨_, run_busReset hr nofun rfl⟩ ?_
  refine Reaches.trans (Reaches.micro (m := .clearMm) hr nofun rfl rfl) ?_
  refine Reaches.of_eq (Reaches.micro (m := .defaultCtx) (rest := rest) hr nofun rfl rfl) ?_
  simp [busResetEvents, State.push, State.emit, hs.2]

/-- State ENABLE_WRITE and the move out of it (R203). -/
theorem Reaches.enableWritePhase {cfg : Record} {w : Nat} {dtr : Bool} (hc : s.cmd = some (.init cfg w dtr))
    (hx : s.seq = .reset) (hctx : s.ctx = ctxDefault s.params) (hp : s.pinOwner = .btp) (hr : s.resetIn = false)
    (ha : s.agenda = .advance :: .op .clfsr :: .op .wren :: .advance :: rest)
    (hq : s.btpIn = some (.ok []) :: some (.ok []) :: q) :
    Reaches s { s with
      seq := .programNonvolatile, agenda := rest, btpIn := q, draws := s.draws + 2,
      events := s.events ++ [sent (bareFrame s.params.op.clfsr (ctxDefault s.params)) [],
                             sent (bareFrame s.params.op.wren (ctxDefault s.params)) []] } :=
  ⟨4, ((enableWriteState s cfg w dtr rest q hc hx hctx hp hr ha).1 hq).2⟩

/-- State SELECT_MODE and the move out of it (R206). -/
theorem Reaches.selectModePhase {cfg : Record} {w : Nat} {dtr : Bool} {c : Ctx} (hx : s.seq = .programVolatile)
    (hr : s.resetIn = false) (hc : deriveCtx s.params w dtr cfg = some c)
    (ha : s.agenda = .advance :: .op (.derive w dtr cfg) :: .commitCtx :: .advance :: rest) :
    Reaches s { s with seq := .verifyStatus, agenda := rest, ret := .ctx c, ctx := c } :=
  ⟨4, (selectModeCommitsTheContext s cfg w dtr c rest hx hr hc ha).2.2⟩

/-- The states PROGRAM_NONVOLATILE and PROGRAM_VOLATILE, with every frame answered Ok (R204, R205). -/
theorem Reaches.programPhase {cfg : Record} (hs : s.busFree) (hr : s.resetIn = false) (hx : s.seq = .programNonvolatile)
    (ha : s.agenda = .op (.encodeRecord { cfg with otpLock := false }) :: .storeNv ::
      (Machine.writeBlock .nvcr (nvImage s.params cfg) [] ++ .advance :: .op (.encodeRecord cfg) :: .storeV ::
        (Machine.writeBlock .vcr (vImage s.params cfg) [] ++ rest)))
    (hq : s.btpIn = okAnswers (2 * s.params.regBlockLen) ++ (okAnswers (2 * s.params.regBlockLen) ++ q)) :
    Reaches s { s with
      seq := .programVolatile, nvShadow := nvImage s.params cfg, vShadow := vImage s.params cfg,
      ret := .image (vImage s.params cfg), agenda := rest, btpIn := q, draws := s.draws + 4 * s.params.regBlockLen,
      events := s.events ++
        blockWriteEvents s.params s.ctx s.params.op.wrnvcr (nvImage s.params cfg) [] ++
        blockWriteEvents s.params s.ctx s.params.op.wrvcr (vImage s.params cfg) [] } := by
  rw [← covered_nil_length] at hq
  refine Reaches.trans (Reaches.micro hr hs.1 ha rfl) ?_
  refine Reaches.trans (Reaches.step (step_storeNv (img := nvImage s.params cfg) rfl hs.1 hr rfl)) ?_
  refine Reaches.trans (Reaches.writeBlock (nvImage_length _ _) hs hr rfl hq) ?_
  refine Reaches.trans (Reaches.step (step_advance hx nofun hr rfl)) ?_
  refine Reaches.trans (Reaches.micro (m := .op (.encodeRecord cfg)) hr nofun rfl rfl) ?_
  refine Reaches.trans (Reaches.step (step_storeV (img := vImage s.params cfg) rfl nofun hr rfl)) ?_
  refine Reaches.of_eq (Reaches.writeBlock (vImage_length _ _) ⟨nofun, hs.2⟩ hr rfl rfl) ?_
  simp +arith [ConfigSpace.writeOp, Seq.succ, vImage]

/-- `wrsr(b)` and the `rdsr()` after it (R207, R225, R226). -/
theorem Reaches.status {b st : Byte} (hs : s.busFree) (hr : s.resetIn = false)
    (ha : s.agenda = .op (.wrsr b) :: .op .rdsr :: rest) (hq : s.btpIn = okAnswers 2 ++ (byteAnswers [st] ++ q)) :
    Reaches s { s with agenda := rest, rx := [st], btpIn := q, draws := s.draws + 3,
                       events := s.events ++ statusEvents s.params s.ctx b st } := by
  refine Reaches.trans (Reaches.pair (i := .wrsr b) rfl rfl rfl rfl hs hr ha hq) ?_
  refine Reaches.of_eq (Reaches.frame (i := .rdsr) (l := [st]) rfl rfl rfl hs hr rfl rfl rfl) ?_
  simp [statusEvents, regReadFrame, recvPhase, Frame.receives]

/-- A ready status byte passes the test (R207). -/
theorem Reaches.ready {b : Byte} (hb : isReady s.params b) (hrx : s.rx = [b]) (hf : s.seq ≠ .fatal)
    (hr : s.resetIn = false) (ha : s.agenda = .checkReady :: rest) : Reaches s { s with agenda := rest } :=
  Reaches.step ((step_checkReady hrx hf hr ha).trans (by rw [if_pos hb]))

/-- A block-protect write, its read-back and the test it passes (R225, R226). -/
theorem Reaches.protect {b st : Byte} (hb : st &&& s.params.bpMask = b) (hs : s.busFree) (hr : s.resetIn = false)
    (ha : s.agenda = .op (.wrsr b) :: .op .rdsr :: .checkProtect b :: rest)
    (hq : s.btpIn = okAnswers 2 ++ (byteAnswers [st] ++ q)) :
    Reaches s { s with agenda := rest, rx := [st], btpIn := q, draws := s.draws + 3,
                       events := s.events ++ statusEvents s.params s.ctx b st } := by
  refine Reaches.trans (Reaches.status hs hr ha hq) ?_
  exact Reaches.of_eq (Reaches.step (step_checkProtect rfl hs.1 hr rfl)) (if_pos hb)

/-- A read-back that gives the bytes expected (R208, R209, R228). -/
theorem Reaches.readBack {sp : ConfigSpace} {img : Image} {skip : List SubregIndex} {e : Expected}
    (hl : img.length = s.params.regBlockLen) (he : s.expected e = imageBytes img skip) (hs : s.busFree)
    (hr : s.resetIn = false) (ha : s.agenda = Machine.readBlock s.params sp skip ++ .verify e :: rest)
    (hq : s.btpIn = byteAnswers (imageBytes img skip) ++ q) :
    Reaches s { s with agenda := rest, btpIn := q, draws := s.draws + (covered s.params skip).length,
                       rx := ((imageBytes img skip).getLast?.map (fun b => [b])).getD s.rx, blk := imageBytes img skip,
                       events := s.events ++ blockReadEvents s.ctx (sp.readOp s.params) img skip } := by
  refine Reaches.trans (Reaches.readBlock hl hs hr ha hq) ?_
  refine Reaches.of_eq (Reaches.step (step_verify hs.1 hr rfl)) (if_pos ?_)
  exact he.symm.trans (by cases e <;> rfl)

end Phase

/-- A host command is taken, and what its program reaches the command reaches. -/
theorem runs_of_reaches {s u : State} {i : Instr} (hi : i.isHost = true) (hs : s.quiet)
    (h : Reaches { s with cmd := some i, agenda := hostProgram s.params s.ctx i, err := none,
                          events := s.events ++ [.cmd i] } u) :
    ∃ t n, exec i s = .next t ∧ run n t = .next u := by
  obtain ⟨n, hn⟩ := h
  exact ⟨_, n, exec_of_quiet hi hs, hn⟩

/-! ## Bring-up -/

/-- The steps of a bring-up with a supported width, phase by phase (R201, R213). -/
theorem initProgram_of_derive {P : Params} {cfg : Record} {w : Nat} {dtr : Bool} {c : Ctx}
    (hc : deriveCtx P w dtr cfg = some c) :
    initProgram P cfg w dtr = stepsReset ++ (.advance :: .op .clfsr :: .op .wren :: .advance ::
      .op (.encodeRecord { cfg with otpLock := false }) :: .storeNv ::
      (writeBlock .nvcr (nvImage P cfg) [] ++ .advance :: .op (.encodeRecord cfg) :: .storeV ::
      (writeBlock .vcr (vImage P cfg) [] ++ .advance :: .op (.derive w dtr cfg) :: .commitCtx :: .advance ::
      .op (.wrsr P.statusCleared) :: .op .rdsr :: .checkReady :: .advance ::
      (readBlock P .nvcr [] ++ .verify .nvShadow :: .advance ::
      (readBlock P .vcr [] ++ .verify .vShadow :: .advance :: endProgram .ok false))))) := by
  obtain ⟨n, hn⟩ : ∃ n, LineCount.ofWidth P w = some n := by
    rw [deriveCtx, Option.map_eq_some_iff] at hc
    obtain ⟨n, hn, _⟩ := hc
    exact ⟨n, hn⟩
  simp [initProgram, hn, bringupProgram, programPhase, stepsEnableWrite, stepsNvImage, stepsVImage, stepsSelectMode,
    verifyPhase, stepsVerifyStatus, stepsVerify, stepsReady]

/-- Settles O42, phase by phase. -/
theorem bringupReachesReady : Obligations.BringupReachesReady := by
  intro s cfg w dtr c st q hs hc hst hq
  have hanswers : s.btpIn = some (.ok []) :: some (.ok []) ::
      (okAnswers (2 * s.params.regBlockLen) ++ (okAnswers (2 * s.params.regBlockLen) ++
        (okAnswers 2 ++ (byteAnswers [st] ++ (byteAnswers (imageBytes (nvImage s.params cfg) []) ++
          (byteAnswers (imageBytes (vImage s.params cfg) []) ++ q)))))) := by
    rw [hq, show 4 + 4 * s.params.regBlockLen =
      2 + (2 * s.params.regBlockLen + (2 * s.params.regBlockLen + 2)) by omega]
    simp [okAnswers_add]
    rfl
  refine runs_of_reaches rfl hs ?_
  obtain ⟨hfree, _, hr⟩ := hs
  have hfree' {x : Seq} (hx : x ≠ .fatal) : x ≠ .fatal ∧ s.pinOwner = .btp := ⟨hx, hfree.2⟩
  refine Reaches.trans (Reaches.resetPhase hfree hr (initProgram_of_derive hc)) ?_
  refine Reaches.trans (Reaches.enableWritePhase rfl rfl rfl hfree.2 hr rfl hanswers) ?_
  refine Reaches.trans (Reaches.programPhase (hfree' nofun) hr rfl rfl rfl) ?_
  refine Reaches.trans (Reaches.selectModePhase rfl hr hc rfl) ?_
  refine Reaches.trans (Reaches.status (hfree' nofun) hr rfl rfl) ?_
  refine Reaches.trans (Reaches.ready hst rfl nofun hr rfl) ?_
  refine Reaches.trans (Reaches.step (step_advance (x := .verifyStatus) rfl nofun hr rfl)) ?_
  refine Reaches.trans (Reaches.readBack (nvImage_length _ _) (imageBytes_nil _).symm (hfree' nofun) hr rfl rfl) ?_
  refine Reaches.trans (Reaches.step (step_advance (x := .verifyNonvolatile) rfl nofun hr rfl)) ?_
  refine Reaches.trans (Reaches.readBack (vImage_length _ _) (imageBytes_nil _).symm (hfree' nofun) hr rfl rfl) ?_
  refine Reaches.trans (Reaches.step (step_advance (x := .verifyVolatile) rfl nofun hr rfl)) ?_
  refine Reaches.of_eq ⟨2, run_endProgram (r := .ok) (d := false) hr nofun rfl⟩ ?_
  simp +arith [State.ended, Seq.succ, ConfigSpace.readOp]

/-! ## Re-provisioning -/

/-- The steps of a re-provisioning (R231). -/
theorem reprovProgram_eq (P : Params) :
    reprovBody P ++ cleanupProgram = .op .clfsr :: .op .wren :: .openWindow ::
      .op (.wrvcr P.maintSubreg P.maintKey) ::
      (writeBlock .nvcr (nvImage P P.defaultCfg) [] ++ (writeBlock .vcr (vImage P P.defaultCfg) (maintSkip P) ++
      .defaultCtx ::
      (readBlock P .nvcr [] ++ .verify (.bytes (imageBytes (nvImage P P.defaultCfg) [])) ::
      (readBlock P .vcr (maintSkip P) ++ .verify (.bytes (imageBytes (vImage P P.defaultCfg) (maintSkip P))) ::
      .op (.wrsr P.bpMask) :: .op .rdsr :: .checkProtect P.bpMask ::
      .op (.wrsr 0) :: .op .rdsr :: .checkProtect 0 :: .bulkVerify :: cleanupProgram)))) := by
  simp [reprovBody, stepsRp2, stepsRp3, stepsRp4, stepsRp5, stepsRp6, stepsProtect, stepsRp9]

/-- Settles O43, step by step. -/
theorem reprovisioningSucceeds : Obligations.ReprovisioningSucceeds := by
  intro s s1 s2 q hs hbulk h1 h2 hq
  have hanswers : s.btpIn = some (.ok []) :: some (.ok []) :: some (.ok []) :: some (.ok []) ::
      (okAnswers (2 * (covered s.params []).length) ++
      (okAnswers (2 * (covered s.params (maintSkip s.params)).length) ++
        (byteAnswers (imageBytes (nvImage s.params s.params.defaultCfg) []) ++
          (byteAnswers (imageBytes (vImage s.params s.params.defaultCfg) (maintSkip s.params)) ++
            (okAnswers 2 ++ (byteAnswers [s1] ++ (okAnswers 2 ++ (byteAnswers [s2] ++ (okAnswers 3 ++ q))))))))) := by
    rw [hq, Nat.add_assoc, okAnswers_add, okAnswers_add, covered_nil_length]
    simp only [List.append_assoc]
    rfl
  have hok : Answer.ok [] ∈ [Answer.ok [], .fail] := by simp
  refine runs_of_reaches rfl hs ?_
  obtain ⟨hfree, _, hr⟩ := hs
  have hskip {t : State} (ht : t.params = s.params) : runMicro .bulkVerify t = .next t := by
    simp [runMicro, bulkVerifyStep, ht, hbulk]
  refine Reaches.trans (Reaches.frame (i := .clfsr) rfl rfl rfl hfree hr (reprovProgram_eq _) hanswers rfl) ?_
  refine Reaches.trans (Reaches.frame (i := .wren) rfl rfl rfl hfree hr rfl rfl rfl) ?_
  refine Reaches.trans (Reaches.micro (m := .openWindow) hr hfree.1 rfl rfl) ?_
  refine Reaches.trans (Reaches.pair (i := .wrvcr _ _) rfl rfl rfl rfl hfree hr rfl rfl) ?_
  refine Reaches.trans (Reaches.writeBlock (nvImage_length _ _) hfree hr rfl rfl) ?_
  refine Reaches.trans (Reaches.writeBlock (vImage_length _ _) hfree hr rfl rfl) ?_
  refine Reaches.trans (Reaches.micro (m := .defaultCtx) hr hfree.1 rfl rfl) ?_
  refine Reaches.trans (Reaches.readBack (nvImage_length _ _) rfl hfree hr rfl rfl) ?_
  refine Reaches.trans (Reaches.readBack (vImage_length _ _) rfl hfree hr rfl rfl) ?_
  refine Reaches.trans (Reaches.protect h1 hfree hr rfl rfl) ?_
  refine Reaches.trans (Reaches.protect h2 hfree hr rfl rfl) ?_
  refine Reaches.trans (Reaches.micro (m := .bulkVerify) hr hfree.1 rfl (hskip rfl)) ?_
  refine Reaches.trans (Reaches.step (step_plain (next := [.exitWrite, .closeWindow]) .exitWindow rfl (fun _ => rfl)
    hfree hr rfl hok rfl)) ?_
  refine Reaches.trans (Reaches.step (step_plain .exitWrite (ite_self []).symm nofun hfree hr rfl hok rfl)) ?_
  refine Reaches.trans (Reaches.micro (m := .closeWindow) hr hfree.1 rfl rfl) ?_
  refine Reaches.of_eq ⟨3, run_disableWrite (r := .ok) hfree hr rfl hok rfl rfl⟩ ?_
  simp +arith [State.ended, ConfigSpace.readOp, ConfigSpace.writeOp, subregWriteEvents, sent]

end Sys2Proof.Machine
